-- ==== Sys2Proof/Word.lean ====
section
/-! DEFINITION. The widths the spec names: a byte, a 32-bit response/argument word, a 36-bit command word, and the
7-byte buffers that stand where another machine has memory (R28, R34: there is no address space). -/

namespace Sys2Proof

/-- A byte, bits 7 down to 0 (R7). -/
abbrev Byte := BitVec 8

/-- A 32-bit word: `arg`, `VAL`, `OFFSET`, `RSP_DATA` (R5: `VAL_W`, `OFF_W`, `TIMES_W`). -/
abbrev Word := BitVec 32

/-- A command word of the command port, `CMD36` (R40). -/
abbrev CmdWord := BitVec 36

/-- A 7-byte buffer: a waveform, `TX_BUF` or `RX_BUF`. `b0` is the first byte in time, `b6` the last (R30). -/
structure Buf7 where
  b0 : Byte
  b1 : Byte
  b2 : Byte
  b3 : Byte
  b4 : Byte
  b5 : Byte
  b6 : Byte
  deriving DecidableEq, Repr, Inhabited

end Sys2Proof
end

