-- ==== Sys2Proof/Config.lean ====
section
/-! DEFINITION. What is fixed for a run (R5, R18, R26) and what the environment leaves free (R9, R96): the parameter
types, the hard-wired bus configuration, and the body-less constants that stand for values the spec leaves open. -/

namespace Sys2Proof

/-- The three gain/channel variants (R5 `N_VARIANTS`, R43). The fourth tag has no variant (R44), so `GAIN_SEL` never
holds it (R15). -/
inductive Gain where
  | g128
  | g64
  | g32
  deriving DecidableEq, Repr, Inhabited

/-- `SIGN_MODE` (R5, R64). -/
inductive SignMode where
  | zext
  | sext24
  deriving DecidableEq, Repr, Inhabited

/-- `WAVEFORM`: three entries of 7 bytes (R17). -/
structure Waveforms where
  g128 : Buf7
  g64 : Buf7
  g32 : Buf7
  deriving DecidableEq, Repr, Inhabited

/-- The OPEN parameters a model takes as arguments of its step (R5, R26): the waveform table, the sign mode, the
auto-close switch and the bus name. No command changes them. -/
structure Params where
  wave : Waveforms
  signMode : SignMode
  autoClose : Bool
  busName : String
  deriving DecidableEq, Repr, Inhabited

/-- The transport's answer to `BusOpen`, `BusConfigure` or `BusClose` (R96); `never` is a transport that does not
answer (R102, U7). -/
inductive Ack where
  | ok
  | err
  | never
  deriving DecidableEq, Repr, Inhabited

/-- The transport's answer to `BusTransfer`. The bytes come as a list, the form R34 and R95 give a list transport;
the fixed port of R96 is the case of 7 bytes (log entry 6). -/
inductive XferAnswer where
  | ok (rx : List Byte)
  | err
  | never
  deriving DecidableEq, Repr, Inhabited

namespace Config

/-- `CFG_FREQ`, in Hz (R18, R52). -/
def cfgFreq : Nat := 115200

/-- `CFG_MODE`, the SPI mode number (R18, R52). -/
def cfgMode : Nat := 0

/-- `CFG_BPW`, bits per word (R18, R52). -/
def cfgBpw : Nat := 8

/-- The platform's `WAVEFORM` before the constraint of R6 (2) is imposed on it (Machine/Waveform.lean): free. -/
opaque waveformChoice : Waveforms

/-- The platform's `SIGN_MODE`: open (D5). -/
opaque signMode : SignMode

/-- The platform's `AUTO_CLOSE`: open (D6). -/
opaque autoClose : Bool

/-- The platform's `BUS_NAME` (D20). -/
opaque busName : String

/-- FREE VALUE: the transport's k-th unscripted answer to an open, configure or close (R96, D25, U6). -/
opaque freeAck : Nat → Ack

/-- FREE VALUE: the transport's k-th unscripted answer to a transfer, bytes included (R96, D25, U6). -/
opaque freeXfer : Nat → XferAnswer

end Config

end Sys2Proof
end

