-- ==== Sys2Proof/Syntax.lean ====
section
/-! DEFINITION. The twelve commands of the opcode map (R41), one constructor per row of the opcode table. A command
whose `arg` is ignored (R42) has no operand. -/

namespace Sys2Proof

/-- A command with its operands assembled by R42. `tag` is the 2-bit gain tag, `times` the unsigned repeat count,
`value` the offset. -/
inductive Instr where
  /-- 0x1 `OPEN` (R53). -/
  | openBus (tag : BitVec 2)
  /-- 0x2 `SET_GAIN` (R57). -/
  | setGain (tag : BitVec 2)
  /-- 0x3 `READ` (R66). -/
  | read
  /-- 0x4 `READ_AVG` (R71). -/
  | readAvg (times : Word)
  /-- 0x5 `TARE` (R72). -/
  | tare (times : Word)
  /-- 0x6 `SET_OFFSET` (R76). -/
  | setOffset (value : Word)
  /-- 0x7 `GET_OFFSET` (R77). -/
  | getOffset
  /-- 0x8 `IS_READY` (R81). -/
  | isReady
  /-- 0x9 `POWER_DOWN` (R82). -/
  | powerDown
  /-- 0xA `POWER_UP` (R83). -/
  | powerUp
  /-- 0xB `CLOSE` (R84). -/
  | close
  /-- 0xC `READ_NET` (R79). -/
  | readNet
  deriving DecidableEq, Repr

end Sys2Proof
end

