-- ==== Sys2Proof/WellFormed.lean ====
section
/-! DEFINITION. Which instruction terms have a legal encoding: only the gain tag of OPEN and SET_GAIN can be wrong
(R42, R44 (2)); every other operand is legal at every value. -/

namespace Sys2Proof

/-- A gain tag is legal when it is 0, 1 or 2 (R43, R44 (2)). -/
def gainTagLegal (tag : BitVec 2) : Bool := tag != 3#2

/-- The operands are ones an encoding can carry (R42, R44). -/
def Instr.wf : Instr → Bool
  | .openBus tag => gainTagLegal tag
  | .setGain tag => gainTagLegal tag
  | .read => true
  | .readAvg _ => true
  | .tare _ => true
  | .setOffset _ => true
  | .getOffset => true
  | .isReady => true
  | .powerDown => true
  | .powerUp => true
  | .close => true
  | .readNet => true

end Sys2Proof
end

