-- ==== Sys2Proof/Decode.lean ====
section
/-! DEFINITION. The decoder of the 36-bit command word (R40 to R44, R47), total and rejecting by name; the encoder,
written from the same table; and the assembler of R48 and R49. -/

namespace Sys2Proof

/-- Why a command word is illegal, by the numbered clauses of R44. -/
inductive Reject where
  /-- R44 (1): `op` is 0x0, 0xD, 0xE or 0xF. -/
  | reservedOpcode
  /-- R44 (2): the gain tag is 3. -/
  | reservedTag
  /-- R44 (3): `arg[31:2]` is not 0 for OPEN or SET_GAIN. -/
  | reservedArgBits
  deriving DecidableEq, Repr

/-- What the decoder answers: a command, or an illegal word with its reason. -/
inductive Decoded where
  | instr (i : Instr)
  | illegal (r : Reject)
  deriving DecidableEq, Repr

/-- Bits 35:32 (R40). -/
def opField (w : CmdWord) : BitVec 4 := w.extractLsb' 32 4

/-- Bits 31:0 (R40). -/
def argField (w : CmdWord) : Word := w.extractLsb' 0 32

/-- `arg[1:0]`, the gain tag (R42). -/
def argTag (arg : Word) : BitVec 2 := arg.extractLsb' 0 2

/-- `arg[31:2]`, which OPEN and SET_GAIN need to be 0 (R42). -/
def argReserved (arg : Word) : BitVec 30 := arg.extractLsb' 2 30

/-- The argument check of OPEN and SET_GAIN (R44 (2), (3)). -/
def decodeGainArg (mk : BitVec 2 → Instr) (arg : Word) : Decoded :=
  if argReserved arg ≠ 0 then .illegal .reservedArgBits
  else if argTag arg = 3 then .illegal .reservedTag
  else .instr (mk (argTag arg))

/-- The opcode map (R41), over the two fields of the word. -/
def decodeFields (op : BitVec 4) (arg : Word) : Decoded :=
  match op with
  | 0x1#4 => decodeGainArg .openBus arg
  | 0x2#4 => decodeGainArg .setGain arg
  | 0x3#4 => .instr .read
  | 0x4#4 => .instr (.readAvg arg)
  | 0x5#4 => .instr (.tare arg)
  | 0x6#4 => .instr (.setOffset arg)
  | 0x7#4 => .instr .getOffset
  | 0x8#4 => .instr .isReady
  | 0x9#4 => .instr .powerDown
  | 0xA#4 => .instr .powerUp
  | 0xB#4 => .instr .close
  | 0xC#4 => .instr .readNet
  | _ => .illegal .reservedOpcode

/-- The decoder, total on all 2^36 words (R47). -/
def decode (w : CmdWord) : Decoded := decodeFields (opField w) (argField w)

/-- The opcode of a command (R41). -/
def Instr.opcode : Instr → BitVec 4
  | .openBus _ => 0x1#4
  | .setGain _ => 0x2#4
  | .read => 0x3#4
  | .readAvg _ => 0x4#4
  | .tare _ => 0x5#4
  | .setOffset _ => 0x6#4
  | .getOffset => 0x7#4
  | .isReady => 0x8#4
  | .powerDown => 0x9#4
  | .powerUp => 0xA#4
  | .close => 0xB#4
  | .readNet => 0xC#4

/-- The argument a command assembles to; an ignored argument is written 0 (R42, R48). -/
def Instr.arg : Instr → Word
  | .openBus tag => tag.setWidth 32
  | .setGain tag => tag.setWidth 32
  | .read => 0
  | .readAvg times => times
  | .tare times => times
  | .setOffset value => value
  | .getOffset => 0
  | .isReady => 0
  | .powerDown => 0
  | .powerUp => 0
  | .close => 0
  | .readNet => 0

/-- The encoder: `op ++ arg` (R40, R48). -/
def encode (i : Instr) : CmdWord := i.opcode ++ i.arg

/-- The bits of the command word that carry something for this command: the opcode, and the argument unless R42
says it is not read. -/
def Instr.careMask : Instr → CmdWord
  | .openBus _ => 0xFFFFFFFFF#36
  | .setGain _ => 0xFFFFFFFFF#36
  | .read => 0xF00000000#36
  | .readAvg _ => 0xFFFFFFFFF#36
  | .tare _ => 0xFFFFFFFFF#36
  | .setOffset _ => 0xFFFFFFFFF#36
  | .getOffset => 0xF00000000#36
  | .isReady => 0xF00000000#36
  | .powerDown => 0xF00000000#36
  | .powerUp => 0xF00000000#36
  | .close => 0xF00000000#36
  | .readNet => 0xF00000000#36

/-- A row of the opcode table: its mask and its match value (spec/opcode_table.json). -/
structure TableRow where
  mask : CmdWord
  pattern : CmdWord
  deriving DecidableEq, Repr

/-- The opcode table's row of each command. -/
def Instr.tableRow : Instr → TableRow
  | .openBus _ => ⟨0xFFFFFFFFC#36, 0x100000000#36⟩
  | .setGain _ => ⟨0xFFFFFFFFC#36, 0x200000000#36⟩
  | .read => ⟨0xF00000000#36, 0x300000000#36⟩
  | .readAvg _ => ⟨0xF00000000#36, 0x400000000#36⟩
  | .tare _ => ⟨0xF00000000#36, 0x500000000#36⟩
  | .setOffset _ => ⟨0xF00000000#36, 0x600000000#36⟩
  | .getOffset => ⟨0xF00000000#36, 0x700000000#36⟩
  | .isReady => ⟨0xF00000000#36, 0x800000000#36⟩
  | .powerDown => ⟨0xF00000000#36, 0x900000000#36⟩
  | .powerUp => ⟨0xF00000000#36, 0xA00000000#36⟩
  | .close => ⟨0xF00000000#36, 0xB00000000#36⟩
  | .readNet => ⟨0xF00000000#36, 0xC00000000#36⟩

/-- The command port's word for an instruction whose bits are `w`, numbered as the opcode table numbers them: one
36-bit word, bit 0 the least significant; bits above `nbits` are 0 (log entry 16). -/
def tableWord (nbits w : Nat) : Nat := w % 2 ^ nbits

/-- The instruction this decoder reads from a table word; a number that does not fit the 36-bit port is no command
word (log entry 16). -/
def decodeTableWord (nbits w : Nat) : Option Instr :=
  if tableWord nbits w < 2 ^ 36 then
    match decode (BitVec.ofNat 36 (tableWord nbits w)) with
    | .instr i => some i
    | .illegal _ => none
  else none

/-! ## Assembler (R48, R49) -/

/-- The kind of operand a command's assembly line takes (R48). -/
inductive OperandKind where
  | gain
  | times
  | value
  | noOperand
  deriving DecidableEq, Repr

/-- The mnemonics of R41 and the aliases of R49, with their opcodes and operand kinds. -/
def mnemonicTable : List (String × BitVec 4 × OperandKind) :=
  [("OPEN", 0x1#4, .gain), ("SET_GAIN", 0x2#4, .gain), ("READ", 0x3#4, .noOperand),
   ("READ_AVG", 0x4#4, .times), ("TARE", 0x5#4, .times), ("SET_OFFSET", 0x6#4, .value),
   ("GET_OFFSET", 0x7#4, .noOperand), ("IS_READY", 0x8#4, .noOperand), ("POWER_DOWN", 0x9#4, .noOperand),
   ("POWER_UP", 0xA#4, .noOperand), ("CLOSE", 0xB#4, .noOperand), ("READ_NET", 0xC#4, .noOperand)] ++
  [("construct", 0x1#4, .gain), ("setGain", 0x2#4, .gain), ("read", 0x3#4, .noOperand),
   ("readAverage", 0x4#4, .times), ("tare", 0x5#4, .times), ("setOffset", 0x6#4, .value),
   ("getOffset", 0x7#4, .noOperand), ("isReady", 0x8#4, .noOperand), ("powerDown", 0x9#4, .noOperand),
   ("powerUp", 0xA#4, .noOperand), ("close", 0xB#4, .noOperand)]

/-- The row of a mnemonic or alias. -/
def lookupMnemonic (m : List Char) : Option (BitVec 4 × OperandKind) :=
  (mnemonicTable.find? fun row => row.1.toList == m).map (·.2)

/-- The value of one digit in base 10 or 16. -/
def digitValue (base : Nat) (c : Char) : Option Nat :=
  let n := c.toNat
  let v := if 48 ≤ n ∧ n ≤ 57 then n - 48
    else if 65 ≤ n ∧ n ≤ 70 then n - 55
    else if 97 ≤ n ∧ n ≤ 102 then n - 87
    else base
  if v < base then some v else none

/-- A non-empty run of digits, most significant first. -/
def digitsValue (base : Nat) : Nat → List Char → Option Nat
  | acc, [] => some acc
  | acc, c :: cs =>
    match digitValue base c with
    | some d => digitsValue base (acc * base + d) cs
    | none => none

/-- An unsigned decimal or hex (`0x..`) literal (R7, R48). -/
def natLiteral : List Char → Option Nat
  | [] => none
  | '0' :: 'x' :: c :: cs => digitsValue 16 0 (c :: cs)
  | c :: cs => digitsValue 10 0 (c :: cs)

/-- `<gain>`: a variant's name or its tag (R43, R48). -/
def gainOperand (t : List Char) : Option Word :=
  if t = ['G', '1', '2', '8'] ∨ t = ['0'] then some 0
  else if t = ['G', '6', '4'] ∨ t = ['1'] then some 1
  else if t = ['G', '3', '2'] ∨ t = ['2'] then some 2
  else none

/-- `<n>`: an unsigned integer below 2^32 (R48). -/
def timesOperand (t : List Char) : Option Word :=
  match natLiteral t with
  | some n => if n < 2 ^ 32 then some (BitVec.ofNat 32 n) else none
  | none => none

/-- `<v>`: a signed decimal in [-2^31, 2^31-1], or a 32-bit hex literal (R48). -/
def valueOperand : List Char → Option Word
  | '-' :: cs =>
    match cs with
    | [] => none
    | _ :: _ =>
      match digitsValue 10 0 cs with
      | some n => if n ≤ 2 ^ 31 then some (BitVec.ofInt 32 (-(n : Int))) else none
      | none => none
  | '0' :: 'x' :: cs =>
    match natLiteral ('0' :: 'x' :: cs) with
    | some n => if n < 2 ^ 32 then some (BitVec.ofNat 32 n) else none
    | none => none
  | cs =>
    match natLiteral cs with
    | some n => if n < 2 ^ 31 then some (BitVec.ofNat 32 n) else none
    | none => none

/-- The operand's 32 bits, or nothing where the line does not fit its command's form. -/
def operandBits : OperandKind → Option (List Char) → Option Word
  | .gain, some t => gainOperand t
  | .times, some t => timesOperand t
  | .value, some t => valueOperand t
  | .noOperand, none => some 0
  | .gain, none => none
  | .times, none => none
  | .value, none => none
  | .noOperand, some _ => none

/-- Split at spaces, dropping empty pieces; `cur` is the piece being read, last character first. -/
def splitSpaces (cur : List Char) : List Char → List (List Char)
  | [] => if cur = [] then [] else [cur.reverse]
  | c :: cs =>
    if c = ' ' then (if cur = [] then splitSpaces [] cs else cur.reverse :: splitSpaces [] cs)
    else splitSpaces (c :: cur) cs

/-- One assembly line to its 36-bit word, `op ++ arg` (R48); nothing for a line that is not of that syntax. -/
def assemble (line : String) : Option CmdWord :=
  match splitSpaces [] line.toList with
  | [m] => (lookupMnemonic m).bind fun row => (operandBits row.2 none).map fun a => row.1 ++ a
  | [m, t] => (lookupMnemonic m).bind fun row => (operandBits row.2 (some t)).map fun a => row.1 ++ a
  | _ => none

/-- One upper-case hex digit. -/
def hexDigit (n : Nat) : Char := ("0123456789ABCDEF".toList).getD n '?'

/-- The hex digits of a command word, most significant first: `0x` and 9 digits (R48). -/
def hex9 (w : CmdWord) : List Char :=
  '0' :: 'x' :: (List.range 9).map fun k => hexDigit (w.extractLsb' (32 - 4 * k) 4).toNat

end Sys2Proof
end

