-- ==== Sys2Proof/Machine/Waveform.lean ====
section
/-! DEFINITION. The gain/channel selector's table (R17, R56), what a waveform encodes (R50), the constraint on the
parameter (R6), and the parameters of this platform. -/

namespace Sys2Proof

/-- Byte `k` of a buffer, `k` in 0..6 (R30). -/
def Buf7.byte (w : Buf7) : Nat → Byte
  | 0 => w.b0
  | 1 => w.b1
  | 2 => w.b2
  | 3 => w.b3
  | 4 => w.b4
  | 5 => w.b5
  | _ => w.b6

/-- The bytes in order of time (R30). -/
def Buf7.toList (w : Buf7) : List Byte := [w.b0, w.b1, w.b2, w.b3, w.b4, w.b5, w.b6]

/-- The buffer a byte list carries, if its length is 7 (R34, R95). -/
def Buf7.ofList : List Byte → Option Buf7
  | [a, b, c, d, e, f, g] => some ⟨a, b, c, d, e, f, g⟩
  | _ => none

/-- `PULSES(g)`, clock pulses per read (R5, R43). -/
def Gain.pulses : Gain → Nat
  | .g128 => 25
  | .g64 => 26
  | .g32 => 27

/-- The gain a variant selects (R43). -/
def Gain.gain : Gain → Nat
  | .g128 => 128
  | .g64 => 64
  | .g32 => 32

/-- `s[j]`, the clock line's level at bit time `j`, 0 to 55, bit 7 of each byte first (R50; PRESUMED GK3). -/
def clockLevel (w : Buf7) (j : Nat) : Bool := (w.byte (j / 8)).getLsbD (7 - j % 8)

/-- `P(w)`: the rising edges of an idle-low clock line over 56 bit times (R50; PRESUMED GK4). -/
def pulseCount (w : Buf7) : Nat :=
  ((List.range 56).filter fun j => clockLevel w j && (j == 0 || !clockLevel w (j - 1))).length

/-- `WAVE(g)`: the whole entry of a variant (R17, R29); also the multiplexer `Sel(g)` (R56). -/
def Waveforms.sel (t : Waveforms) : Gain → Buf7
  | .g128 => t.g128
  | .g64 => t.g64
  | .g32 => t.g32

/-- R6 (2): every entry encodes its variant's pulse count. -/
def Waveforms.legal (t : Waveforms) : Bool :=
  pulseCount t.g128 == Gain.pulses .g128 && pulseCount t.g64 == Gain.pulses .g64 &&
    pulseCount t.g32 == Gain.pulses .g32

/-- The default candidate of D4: `[0xAA x6, t_g]`. -/
def candidateWave : Gain → Buf7
  | .g128 => ⟨0xAA, 0xAA, 0xAA, 0xAA, 0xAA, 0xAA, 0x80⟩
  | .g64 => ⟨0xAA, 0xAA, 0xAA, 0xAA, 0xAA, 0xAA, 0xA0⟩
  | .g32 => ⟨0xAA, 0xAA, 0xAA, 0xAA, 0xAA, 0xAA, 0xA8⟩

/-- The table of the D4 candidates, for tests; no rule depends on it. -/
def candidateTable : Waveforms := ⟨candidateWave .g128, candidateWave .g64, candidateWave .g32⟩

/-- A choice of entry, with R6 (2) imposed: an entry of the wrong pulse count gives way to the candidate, so the
result ranges over exactly the legal entries (log entry 8). -/
def legalEntry (g : Gain) (choice : Buf7) : Buf7 :=
  if pulseCount choice = g.pulses then choice else candidateWave g

/-- `WAVEFORM` of this platform: any legal table (R5, R6). -/
def Config.waveform : Waveforms :=
  ⟨legalEntry .g128 (Config.waveformChoice.sel .g128), legalEntry .g64 (Config.waveformChoice.sel .g64),
    legalEntry .g32 (Config.waveformChoice.sel .g32)⟩

/-- The parameters of this platform, every one of them open (R5, R26). -/
def Config.params : Params :=
  { wave := Config.waveform, signMode := Config.signMode, autoClose := Config.autoClose, busName := Config.busName }

end Sys2Proof
end

