-- ==== Sys2Proof/Machine/State.lean ====
section
/-! DEFINITION. The state of the block (R13), the transport and host ports it stands between (R27, R40, R45, R96), the
state after hardware reset (R106), and the reasons a step could stop. Plain data throughout. -/

namespace Sys2Proof.Machine

/-- `LIFE`, the lifecycle register (R14): 0 `NONE`, 1 `OPEN`, 2 `CLOSED`; the value 3 is never written (U10). -/
inductive Life where
  | none
  | opened
  | closed
  deriving DecidableEq, Repr, Inhabited

/-- The response status, `RSP_ERR` (R86); the codes 10 to 15 are never produced (U9). -/
inductive Status where
  | ok
  | ioOpen
  | ioConfig
  | ioTransfer
  | ioClose
  | notOpen
  | divZero
  | illegalCmd
  | illegalState
  | malformed
  deriving DecidableEq, Repr, Inhabited

/-- The response registers `RSP_ERR` and `RSP_DATA` (R22, R45). -/
structure Response where
  err : Status
  data : Word
  deriving DecidableEq, Repr, Inhabited

/-- The transient datapath (R20, R21): it means something only while a command runs. -/
structure Datapath where
  /-- `TX_BUF`: the waveform of the current transfer. -/
  txBuf : Buf7
  /-- `RX_BUF`: the response buffer of the current transfer. -/
  rxBuf : Buf7
  /-- `RAW`: the decoded word. -/
  raw : BitVec 24
  /-- `VAL`: the widened value. -/
  val : Word
  /-- `ACC`: the averaging accumulator. -/
  acc : BitVec 64
  /-- `CNT`: the averaging loop counter. -/
  cnt : Word
  deriving DecidableEq, Repr, Inhabited

/-- The datapath between commands, where the spec gives it no value (R20, R21, R106): all zero, and no command reads
it (DESIGN CHOICE, log entry 10). -/
def Datapath.cleared : Datapath :=
  { txBuf := ⟨0, 0, 0, 0, 0, 0, 0⟩, rxBuf := ⟨0, 0, 0, 0, 0, 0, 0⟩, raw := 0, val := 0, acc := 0, cnt := 0 }

/-- One transaction on the bus-transport port (R9, R96): what the block sent and what the transport answered. -/
inductive BusEvent where
  | busOpen (name : String) (answer : Ack)
  | busConfigure (freq mode bpw : Nat) (answer : Ack)
  | busTransfer (tx : Buf7) (answer : XferAnswer)
  | busClose (answer : Ack)
  deriving DecidableEq, Repr

/-- The transport port: the environment's answers (R9, R96) and the transactions issued so far (R27 (b)). Answers come
first from the scripts, in order; past a script's end the k-th one is the free value `Config.freeAck k` or
`Config.freeXfer k`, counted by the two counters (log entry 4). -/
structure Bus where
  acks : List Ack
  ackDraws : Nat
  xfers : List XferAnswer
  xferDraws : Nat
  /-- Every transaction, oldest first: an observation, read by no command (log entry 12). -/
  trace : List BusEvent
  deriving DecidableEq, Repr

structure State where
  /-- `LIFE` (R14). -/
  life : Life
  /-- `GAIN_SEL` (R15). -/
  gainSel : Gain
  /-- `OFFSET`, 32-bit two's complement (R16). -/
  offset : Word
  /-- `BUSY`, the handshake bit; `cmd_ready` is its negation (R19). -/
  busy : Bool
  /-- `TX_BUF`, `RX_BUF`, `RAW`, `VAL`, `ACC`, `CNT` (R20, R21). -/
  dp : Datapath
  /-- `RSP_ERR`, `RSP_DATA` (R22). -/
  rsp : Response
  /-- `rsp_valid` (R45). -/
  rspValid : Bool
  /-- `WAVE` (R17), and the parameters `SIGN_MODE`, `AUTO_CLOSE`, `BUS_NAME` (R5, R26): read only. -/
  par : Params
  /-- The bus-transport port (R96). -/
  bus : Bus
  /-- The command port: the words the host presents, in its order; the head is on the port with `cmd_valid = 1`, and
  an empty list is `cmd_valid = 0` (R24, R40; log entry 1). -/
  cmds : List CmdWord
  /-- `rsp_ready`, the host's input (R45; log entry 3). -/
  rspReady : Bool
  /-- The responses the host has taken, oldest first (R27 (a)): an observation, read by no command (log entry 12). -/
  responses : List Response
  deriving DecidableEq, Repr

/-- Why the machine would stop with a fault. The block has no faults: every error is a response (R98). -/
inductive Fault where
  /-- The spec's "modelling error": a read of table entry 3 or of a transient register before it is written (R20,
  R29). Raised by no step, since the types of `LIFE` and `GAIN_SEL` and the order of each meaning rule it out. Safe. -/
  | modellingError
  deriving DecidableEq, Repr

/-- Why `exec` would refuse an instruction. -/
inductive Refusal where
  /-- The instruction has no meaning yet. Raised by an arm of `exec` only, and by none now. Safe. -/
  | notModelled (mnemonic : String)
  deriving DecidableEq, Repr

/-- Right after hardware reset (R106): `LIFE = NONE`, `BUSY = 0`, `rsp_valid = 0`, the parameters as the platform fixes
them, no transport transaction issued. `GAIN_SEL` and `OFFSET` (unspecified: log entry 9), the transients (log entry
10) and the response registers (log entry 11) hold the values the log names; the ports' inputs are those of log
entries 1, 3 and 4. -/
def State.reset : State :=
  { life := .none
    gainSel := .g128
    offset := 0
    busy := false
    dp := Datapath.cleared
    rsp := ⟨.ok, 0⟩
    rspValid := false
    par := Config.params
    bus := { acks := [], ackDraws := 0, xfers := [], xferDraws := 0, trace := [] }
    cmds := []
    rspReady := true
    responses := [] }

end Sys2Proof.Machine
end

