-- ==== Sys2Proof/Machine/Unpack.lean ====
section
/-! DEFINITION. The bit-unpacking engine and the sign stage (R61 to R64), and the buffer `Enc(W)` of R67 (2). -/

namespace Sys2Proof

/-- `Nib(b)`: invert the byte, take bits 6, 4, 2, 0, bit 6 most significant (R61). -/
def nib (b : Byte) : BitVec 4 :=
  BitVec.ofBool ((~~~b).getLsbD 6) ++ BitVec.ofBool ((~~~b).getLsbD 4) ++ BitVec.ofBool ((~~~b).getLsbD 2) ++
    BitVec.ofBool ((~~~b).getLsbD 0)

/-- `Decode24(rx)`: the nibbles of bytes 0 to 5, most significant first; byte 6 is not read (R62). -/
def decode24 (rx : Buf7) : BitVec 24 :=
  nib rx.b0 ++ nib rx.b1 ++ nib rx.b2 ++ nib rx.b3 ++ nib rx.b4 ++ nib rx.b5

/-- `Ext(RAW)`, the sign stage (R64). -/
def ext : SignMode → BitVec 24 → Word
  | .zext, raw => raw.setWidth 32
  | .sext24, raw => raw.signExtend 32

/-- The value of one response buffer: decode, then widen (R62, R64). -/
def valueOf (m : SignMode) (rx : Buf7) : Word := ext m (decode24 rx)

/-- The byte of `Enc(W)` whose nibble is `n`: bit `6 - 2j` is the complement of nibble bit `3 - j`, the odd bits are
0 (R67 (2)). -/
def encNib (n : BitVec 4) : Byte :=
  0#1 ++ BitVec.ofBool (!n.getLsbD 3) ++ 0#1 ++ BitVec.ofBool (!n.getLsbD 2) ++ 0#1 ++ BitVec.ofBool (!n.getLsbD 1) ++
    0#1 ++ BitVec.ofBool (!n.getLsbD 0)

/-- `Enc(W)`: a buffer that decodes to `W`, its don't-care bits 0 (R67 (2)). -/
def enc24 (v : BitVec 24) : Buf7 :=
  ⟨encNib (v.extractLsb' 20 4), encNib (v.extractLsb' 16 4), encNib (v.extractLsb' 12 4), encNib (v.extractLsb' 8 4),
    encNib (v.extractLsb' 4 4), encNib (v.extractLsb' 0 4), 0⟩

end Sys2Proof
end

