-- ==== Sys2Proof/Machine/Operands.lean ====
section
/-! DEFINITION. The operand forms (R42, R43) and the spec's number notation (R7): how an operand is read, how a value
is widened, wrapped and divided, and the offset subtractor (R78). -/

namespace Sys2Proof

/-- The variant of a gain tag; tag 3 has none (R43). -/
def Gain.ofTag : BitVec 2 → Option Gain
  | 0#2 => some .g128
  | 1#2 => some .g64
  | 2#2 => some .g32
  | _ => none

/-- The tag of a variant, the bits `GAIN_SEL` holds (R15, R43). -/
def Gain.tag : Gain → BitVec 2
  | .g128 => 0#2
  | .g64 => 1#2
  | .g32 => 2#2

namespace Machine

/-- The bits `LIFE` holds (R14). -/
def Life.code : Life → BitVec 2
  | .none => 0#2
  | .opened => 1#2
  | .closed => 2#2

/-- The repeat count `n = int(arg)`, unsigned (R42). -/
def repeatCount (times : Word) : Nat := times.toNat

/-- `sext_64(v)` (R7). -/
def sext64 (v : Word) : BitVec 64 := v.signExtend 64

/-- `wrap_32(x)` (R7). -/
def wrap32 (x : Int) : Word := BitVec.ofInt 32 x

/-- `trunc_div(a, b)`: the quotient rounded toward zero (R7). -/
def truncDiv (a : Int) (b : Nat) : Int := a.tdiv b

/-- `Net(v, OFFSET) = wrap_32(sint_32(v) - sint_32(OFFSET))` (R78). -/
def net (v offset : Word) : Word := wrap32 (v.toInt - offset.toInt)

end Machine

end Sys2Proof
end

