-- ==== Sys2Proof/Machine/Flags.lean ====
section
/-! DEFINITION. The block has no flags (R25). This file holds what stands in for them: the response status codes (R86)
and the constant ready indication. -/

namespace Sys2Proof.Machine

/-- `rsp_err`, the 4-bit code of a status (R86). -/
def Status.code : Status → BitVec 4
  | .ok => 0#4
  | .ioOpen => 1#4
  | .ioConfig => 2#4
  | .ioTransfer => 3#4
  | .ioClose => 4#4
  | .notOpen => 5#4
  | .divZero => 6#4
  | .illegalCmd => 7#4
  | .illegalState => 8#4
  | .malformed => 9#4

/-- The codes that are the source's one "I/O error" kind (R86). -/
def Status.isIoError : Status → Bool
  | .ok => false
  | .ioOpen => true
  | .ioConfig => true
  | .ioTransfer => true
  | .ioClose => true
  | .notOpen => false
  | .divZero => false
  | .illegalCmd => false
  | .illegalState => false
  | .malformed => false

/-- The ready indication, a constant 1 (R25 (2), R46, R81). -/
def readyIndication : Word := 1

end Sys2Proof.Machine
end

