-- ==== Sys2Proof/Machine/Ops.lean ====
section
/-! DEFINITION. The operations every meaning is written over: the transport primitives (R9), the register writes, the
completion primitives `respond` and `raise` (R10, R98), and the handshakes of the command and response ports (R19,
R40, R45). -/

namespace Sys2Proof.Machine

/-! ## The transport's answers (R9, R96) -/

/-- The answer the k-th acknowledgement from now will be: scripted, or the free value past the script's end. -/
def Bus.ackAt (b : Bus) (k : Nat) : Ack :=
  match b.acks[k]? with
  | some a => a
  | none => Config.freeAck (b.ackDraws + (k - b.acks.length))

/-- The answer the k-th transfer from now will get. -/
def Bus.xferAt (b : Bus) (k : Nat) : XferAnswer :=
  match b.xfers[k]? with
  | some a => a
  | none => Config.freeXfer (b.xferDraws + (k - b.xfers.length))

/-- Issue a transaction answered by an acknowledgement: the answer is used up and the transaction recorded. -/
def Bus.takeAck (b : Bus) (event : Ack → BusEvent) : Bus :=
  { b with
    acks := b.acks.tail
    ackDraws := if b.acks.isEmpty then b.ackDraws + 1 else b.ackDraws
    trace := b.trace ++ [event (b.ackAt 0)] }

/-- Issue a transfer: the answer is used up and the transaction recorded. -/
def Bus.takeXfer (b : Bus) (tx : Buf7) : Bus :=
  { b with
    xfers := b.xfers.tail
    xferDraws := if b.xfers.isEmpty then b.xferDraws + 1 else b.xferDraws
    trace := b.trace ++ [.busTransfer tx (b.xferAt 0)] }

/-- The answer of the next open, configure or close. -/
def nextAck (s : State) : Ack := s.bus.ackAt 0

/-- The answer of the next transfer. -/
def nextXfer (s : State) : XferAnswer := s.bus.xferAt 0

/-- `BusOpen(BUS_NAME)` (R9, R96). -/
def busOpen (s : State) : State := { s with bus := s.bus.takeAck (.busOpen s.par.busName) }

/-- `BusConfigure(CFG_FREQ, CFG_MODE, CFG_BPW)` (R9, R18, R52). -/
def busConfigure (s : State) : State :=
  { s with bus := s.bus.takeAck (.busConfigure Config.cfgFreq Config.cfgMode Config.cfgBpw) }

/-- `BusTransfer(TX_BUF)` (R9, R34). -/
def busTransfer (s : State) : State := { s with bus := s.bus.takeXfer s.dp.txBuf }

/-- `BusClose()` (R9). -/
def busClose (s : State) : State := { s with bus := s.bus.takeAck .busClose }

/-! ## Register writes (R8) -/

/-- `LIFE <- l` (R14). -/
def setLife (l : Life) (s : State) : State := { s with life := l }

/-- `GAIN_SEL <- g` (R15). -/
def setGainSel (g : Gain) (s : State) : State := { s with gainSel := g }

/-- `OFFSET <- v` (R16). -/
def setOffsetReg (v : Word) (s : State) : State := { s with offset := v }

/-- `TX_BUF <- Sel(GAIN_SEL)` (R56, R65). -/
def loadWaveform (s : State) : State := { s with dp := { s.dp with txBuf := s.par.wave.sel s.gainSel } }

/-- `RX_BUF <- rx; RAW <- Decode24(RX_BUF); VAL <- Ext(RAW)` (R65). -/
def loadResponse (rx : Buf7) (s : State) : State :=
  { s with dp := { s.dp with rxBuf := rx, raw := decode24 rx, val := ext s.par.signMode (decode24 rx) } }

/-- `ACC <- 0; CNT <- 0` (R70). -/
def clearAccumulator (s : State) : State := { s with dp := { s.dp with acc := 0, cnt := 0 } }

/-- `ACC <- ACC + sext_64(v); CNT <- CNT + 1` (R70). -/
def accumulate (v : Word) (s : State) : State :=
  { s with dp := { s.dp with acc := s.dp.acc + sext64 v, cnt := s.dp.cnt + 1 } }

/-! ## Ends of a command (R10, R98) -/

/-- End the command with response `r`: the response registers are written, the response is presented, and the
transient registers lose their contents (R10, R20 to R22, R45). `BUSY` stays 1 until the response is taken. -/
def endCommand (r : Response) (s : State) : State := { s with dp := Datapath.cleared, rsp := r, rspValid := true }

/-- `respond(data)` (R10). -/
def respond (data : Word) (s : State) : State := endCommand ⟨.ok, data⟩ s

/-- `raise E`: the one way an error is taken (R10, R98). State writes made before it stay; the response carries the
code and data 0. -/
def raise (e : Status) (s : State) : State := endCommand ⟨e, 0⟩ s

/-- How a piece of a command ends: with a value, with an error raised, or never, because the transport does not
answer (R10, R102). -/
inductive Ran (α : Type) where
  | done (a : α) (s : State)
  | raised (e : Status) (s : State)
  | hung (s : State)
  deriving DecidableEq, Repr

/-- Go on after a piece that ended with a value; an error or a hang ends the whole command (R10, R65). -/
def Ran.bind {α β : Type} (r : Ran α) (f : α → State → Ran β) : Ran β :=
  match r with
  | .done a s => f a s
  | .raised e s => .raised e s
  | .hung s => .hung s

/-- The state a command leaves: the response presented, or, in a hang, the state it waits in with `BUSY` as it was
(R102). -/
def Ran.final (r : Ran Word) : State :=
  match r with
  | .done data s => respond data s
  | .raised e s => raise e s
  | .hung s => s

/-- The outcome of a command: always a next state, since every error is a response (R98). -/
def finish (r : Ran Word) : Host.Outcome State Fault Refusal := .next r.final

/-- The check every command but OPEN starts with: `if LIFE == NONE: raise E_ILLEGAL_STATE` (R55, R94). -/
def needsInstance (s : State) (body : State → Ran Word) : Ran Word :=
  match s.life with
  | .none => .raised .illegalState s
  | .opened => body s
  | .closed => body s

/-! ## The ports' handshakes (R19, R40, R45) -/

/-- `cmd_ready = NOT BUSY` (R19, R40). -/
def cmdReady (s : State) : Bool := !s.busy

/-- The word on the command port, if `cmd_valid = 1` (R40). -/
def presented (s : State) : Option CmdWord := s.cmds.head?

/-- Accept the presented command: `BUSY <- 1`, the word leaves the port, no response yet (R19, R40). -/
def accept (s : State) : State := { s with busy := true, rspValid := false, cmds := s.cmds.tail }

/-- The response is taken: `BUSY` clears (R45, R98); the response registers keep what they hold (R22). -/
def takeResponse (s : State) : State :=
  { s with busy := false, rspValid := false, responses := s.responses ++ [s.rsp] }

end Sys2Proof.Machine
end

