-- ==== Sys2Proof/Machine/Read.lean ====
section
/-! DEFINITION. The read procedure every reading command shares, and READ (R65, R66). -/

namespace Sys2Proof.Machine

/-- The reference's auto-close: `LIFE <- CLOSED`, then `BusClose`; if the close fails the value is discarded (R65,
R90). -/
def autoClose (v : Word) (s : State) : Ran Word :=
  let s1 := setLife .closed s
  match nextAck s1 with
  | .never => .hung (busClose s1)
  | .err => .raised .ioClose (busClose s1)
  | .ok => .done v (busClose s1)

/-- What `ReadCore` does with the bytes of an `Ok` answer: a list of another length than 7 is `E_MALFORMED`, in place
of decoding (R34, R95); else decode, widen, and close if `AUTO_CLOSE` (R65). -/
def receive (bytes : List Byte) (s : State) : Ran Word :=
  match Buf7.ofList bytes with
  | none => .raised .malformed s
  | some rx =>
    let s1 := loadResponse rx s
    match s1.par.autoClose with
    | true => autoClose s1.dp.val s1
    | false => .done s1.dp.val s1

/-- The transfer of one read, sending `TX_BUF` (R65). -/
def transferAndDecode (s : State) : Ran Word :=
  match nextXfer s with
  | .never => .hung (busTransfer s)
  | .err => .raised .ioTransfer (busTransfer s)
  | .ok bytes => receive bytes (busTransfer s)

/-- `ReadCore()`: one read, run once the caller has excluded `LIFE = NONE` (R65). -/
def readCore (s : State) : Ran Word :=
  match s.life with
  | .closed => .raised .notOpen s
  | .none => transferAndDecode (loadWaveform s)
  | .opened => transferAndDecode (loadWaveform s)

/-- READ: one conversion read, not offset-corrected (R66, R80). -/
def execRead (s : State) : Host.Outcome State Fault Refusal := finish (needsInstance s readCore)

end Sys2Proof.Machine
end

