-- ==== Sys2Proof/Machine/Average.lean ====
section
/-! DEFINITION. The averaging accumulator, READ_AVG and TARE (R70 to R72). -/

namespace Sys2Proof.Machine

/-- The loop of `AvgCore`: `k` reads still to do (R70). -/
def avgLoop : Nat → State → Ran Unit
  | 0, s => .done () s
  | k + 1, s => (readCore s).bind fun v s1 => avgLoop k (accumulate v s1)

/-- `AvgCore(n)`: clear, sum n reads, divide toward zero; n = 0 raises `E_DIV_ZERO` with no read done (R70). -/
def avgCore (n : Nat) (s : State) : Ran Int :=
  (avgLoop n (clearAccumulator s)).bind fun _ s1 =>
    if n = 0 then .raised .divZero s1 else .done (truncDiv s1.dp.acc.toInt n) s1

/-- READ_AVG: the average of n reads (R71). -/
def execReadAvg (times : Word) (s : State) : Host.Outcome State Fault Refusal :=
  finish (needsInstance s fun s => (avgCore (repeatCount times) s).bind fun q s1 => .done (wrap32 q) s1)

/-- TARE: average n reads and store the average as the offset; an error leaves `OFFSET` (R72). -/
def execTare (times : Word) (s : State) : Host.Outcome State Fault Refusal :=
  finish (needsInstance s fun s =>
    (avgCore (repeatCount times) s).bind fun q s1 => .done 0 (setOffsetReg (wrap32 q) s1))

end Sys2Proof.Machine
end

