-- ==== Sys2Proof/Machine/Close.lean ====
section
/-! DEFINITION. CLOSE (R84). -/

namespace Sys2Proof.Machine

/-- CLOSE's release of an open handle: `LIFE <- CLOSED`, then `BusClose`; a failed close still counts as released
(R84, R90). -/
def releaseHandle (s : State) : Ran Word :=
  let s1 := setLife .closed s
  match nextAck s1 with
  | .never => .hung (busClose s1)
  | .err => .raised .ioClose (busClose s1)
  | .ok => .done 0 (busClose s1)

/-- CLOSE: release the bus handle; in `CLOSED` it succeeds with no transaction (R84). -/
def execClose (s : State) : Host.Outcome State Fault Refusal :=
  finish (match s.life with
    | .none => .raised .illegalState s
    | .closed => .done 0 s
    | .opened => releaseHandle s)

end Sys2Proof.Machine
end

