-- ==== Sys2Proof/Machine/Construct.lean ====
section
/-! DEFINITION. OPEN (R53, R54). -/

namespace Sys2Proof.Machine

/-- OPEN's bus sequence, once the checks have passed: open, configure, and on a configure error one best-effort close
whose result is discarded. -/
def openSequence (g : Gain) (s : State) : Ran Word :=
  match nextAck s with
  | .never => .hung (busOpen s)
  | .err => .raised .ioOpen (busOpen s)
  | .ok =>
    let s1 := busOpen s
    match nextAck s1 with
    | .never => .hung (busConfigure s1)
    | .err =>
      let s2 := busConfigure s1
      match nextAck s2 with
      | .never => .hung (busClose s2)
      | .err => .raised .ioConfig (busClose s2)
      | .ok => .raised .ioConfig (busClose s2)
    | .ok => .done 0 (setLife .opened (setOffsetReg 0 (setGainSel g (busConfigure s1))))

/-- OPEN: construct an instance and acquire the bus (R53). -/
def execOpen (tag : BitVec 2) (s : State) : Host.Outcome State Fault Refusal :=
  finish (match Gain.ofTag tag with
    | none => .raised .illegalCmd s
    | some g =>
      match s.life with
      | .opened => .raised .illegalState s
      | .none => openSequence g s
      | .closed => openSequence g s)

end Sys2Proof.Machine
end

