-- ==== Sys2Proof/Machine/GainSelect.lean ====
section
/-! DEFINITION. SET_GAIN (R57). -/

namespace Sys2Proof.Machine

/-- SET_GAIN: change the gain/channel selection; no bus I/O (R57). -/
def execSetGain (tag : BitVec 2) (s : State) : Host.Outcome State Fault Refusal :=
  finish (match Gain.ofTag tag with
    | none => .raised .illegalCmd s
    | some g => needsInstance s fun s => .done 0 (setGainSel g s))

end Sys2Proof.Machine
end

