-- ==== Sys2Proof/Machine/Offset.lean ====
section
/-! DEFINITION. SET_OFFSET, GET_OFFSET and READ_NET (R76 to R79). -/

namespace Sys2Proof.Machine

/-- SET_OFFSET: write the offset, no validation (R76). -/
def execSetOffset (value : Word) (s : State) : Host.Outcome State Fault Refusal :=
  finish (needsInstance s fun s => .done 0 (setOffsetReg value s))

/-- GET_OFFSET: read the offset (R77). -/
def execGetOffset (s : State) : Host.Outcome State Fault Refusal :=
  finish (needsInstance s fun s => .done s.offset s)

/-- READ_NET: one read, offset-corrected (R79). -/
def execReadNet (s : State) : Host.Outcome State Fault Refusal :=
  finish (needsInstance s fun s => (readCore s).bind fun v s1 => .done (net v s1.offset) s1)

end Sys2Proof.Machine
end

