-- ==== Sys2Proof/Machine/StatusPower.lean ====
section
/-! DEFINITION. The status and power stubs: IS_READY, POWER_DOWN, POWER_UP (R81 to R83). -/

namespace Sys2Proof.Machine

/-- IS_READY: a constant 1, with no transport transaction (R81). -/
def execIsReady (s : State) : Host.Outcome State Fault Refusal :=
  finish (needsInstance s fun s => .done readyIndication s)

/-- POWER_DOWN: a no-op (R82). -/
def execPowerDown (s : State) : Host.Outcome State Fault Refusal :=
  finish (needsInstance s fun s => .done 0 s)

/-- POWER_UP: a no-op (R83). -/
def execPowerUp (s : State) : Host.Outcome State Fault Refusal :=
  finish (needsInstance s fun s => .done 0 s)

end Sys2Proof.Machine
end

