-- ==== Sys2Proof/Machine/Dispatch.lean ====
section
/-! DEFINITION. The dispatch: one arm per command of the opcode map (R41), each one call of its meaning. -/

namespace Sys2Proof.Machine

def exec (i : Instr) (s : State) : Host.Outcome State Fault Refusal :=
  match i with
  | .openBus tag => Sys2Proof.Machine.execOpen tag s
  | .setGain tag => Sys2Proof.Machine.execSetGain tag s
  | .read => Sys2Proof.Machine.execRead s
  | .readAvg times => Sys2Proof.Machine.execReadAvg times s
  | .tare times => Sys2Proof.Machine.execTare times s
  | .setOffset value => Sys2Proof.Machine.execSetOffset value s
  | .getOffset => Sys2Proof.Machine.execGetOffset s
  | .isReady => Sys2Proof.Machine.execIsReady s
  | .powerDown => Sys2Proof.Machine.execPowerDown s
  | .powerUp => Sys2Proof.Machine.execPowerUp s
  | .close => Sys2Proof.Machine.execClose s
  | .readNet => Sys2Proof.Machine.execReadNet s

end Sys2Proof.Machine
end

