-- ==== Sys2Proof/Machine/Step.lean ====
section
/-! DEFINITION. One step of the block: accept and run the presented command, or wait at a port (R2, R19, R36, R45). -/

namespace Sys2Proof.Machine

/-- Run an accepted command word: a legal word is its command, an illegal one is refused with `E_ILLEGAL_CMD` before
any state changes (R44, R47, R93). -/
def runWord (w : CmdWord) (s : State) : Host.Outcome State Fault Refusal :=
  match decode w with
  | .instr i => exec i s
  | .illegal _ => .next (raise .illegalCmd s)

/-- One step. With `BUSY = 0`: accept the presented word and run it to its end, or idle if none is presented. With
`BUSY = 1`: the presented response is taken if `rsp_ready = 1` and held otherwise (R45); with no response presented
the command is still waiting for a transport that never answers (R102). -/
def step (s : State) : Host.Outcome State Fault Refusal :=
  match cmdReady s with
  | true =>
    match presented s with
    | some w => runWord w (accept s)
    | none => .next s
  | false =>
    match s.rspValid && s.rspReady with
    | true => .next (takeResponse s)
    | false => .next s

/-- The host presents this word next on a released command port, so that the very next step accepts and runs it (log
entries 1 and 16). -/
def State.withFetchWord (s : State) (nbits w : Nat) : State :=
  { s with cmds := BitVec.ofNat 36 (tableWord nbits w) :: s.cmds, busy := false, rspValid := false }

end Sys2Proof.Machine
end

