-- ==== Sys2Proof/Safety.lean ====
section
/-! DEFINITION. The terms claims are made in: the architectural view of a state, what a command issued on the
transport port, how it ended, the bus protocol a safe run keeps, and the machine's invariant. -/

namespace Sys2Proof.Machine

/-! ## The view of a state between commands -/

/-- All of a state but the transient datapath, the response registers and the transport port: what a command may not
change unless its rule says so (R13). -/
structure Arch where
  life : Life
  gainSel : Gain
  offset : Word
  busy : Bool
  par : Params
  cmds : List CmdWord
  rspReady : Bool
  responses : List Response
  deriving DecidableEq, Repr

/-- The architectural view. -/
def State.arch (s : State) : Arch :=
  { life := s.life, gainSel := s.gainSel, offset := s.offset, busy := s.busy, par := s.par, cmds := s.cmds
    rspReady := s.rspReady, responses := s.responses }

/-- The transaction is a transfer. -/
def BusEvent.isTransfer : BusEvent → Bool
  | .busOpen _ _ => false
  | .busConfigure _ _ _ _ => false
  | .busTransfer _ _ => true
  | .busClose _ => false

/-- The transaction is a configure. -/
def BusEvent.isConfigure : BusEvent → Bool
  | .busOpen _ _ => false
  | .busConfigure _ _ _ _ => true
  | .busTransfer _ _ => false
  | .busClose _ => false

/-- The transaction is a close. -/
def BusEvent.isClose : BusEvent → Bool
  | .busOpen _ _ => false
  | .busConfigure _ _ _ _ => false
  | .busTransfer _ _ => false
  | .busClose _ => true

/-- The transaction is an open. -/
def BusEvent.isOpen : BusEvent → Bool
  | .busOpen _ _ => true
  | .busConfigure _ _ _ _ => false
  | .busTransfer _ _ => false
  | .busClose _ => false

/-- The transport never answered the transaction (R102). -/
def BusEvent.unanswered : BusEvent → Bool
  | .busOpen _ a => a == .never
  | .busConfigure _ _ _ a => a == .never
  | .busTransfer _ a => a == .never
  | .busClose a => a == .never

/-- From `s` to `t` the block issued exactly the transactions `es`, in that order, and used one answer of the transport
for each (R27 (b), R36 (2)). -/
def Issued (s t : State) (es : List BusEvent) : Prop :=
  t.bus.trace = s.bus.trace ++ es ∧
  (∀ k, t.bus.ackAt k = s.bus.ackAt (k + es.countP fun e => !e.isTransfer)) ∧
  (∀ k, t.bus.xferAt k = s.bus.xferAt (k + es.countP BusEvent.isTransfer))

/-- `t` is the end of a command: the response `r` is presented (R10, R45). -/
def Answers (t : State) (r : Response) : Prop := t.rsp = r ∧ t.rspValid = true

/-- `t` is a command of `s` waiting for ever: no response was made (R102). -/
def Waits (s t : State) : Prop := t.rsp = s.rsp ∧ t.rspValid = s.rspValid

/-- The state a piece of a command leaves, however it ends. -/
def Ran.state {α : Type} : Ran α → State
  | .done _ s => s
  | .raised _ s => s
  | .hung s => s

/-! ## Commands -/

/-- The commands that read (R65). -/
def reading : Instr → Bool
  | .openBus _ => false
  | .setGain _ => false
  | .read => true
  | .readAvg _ => true
  | .tare _ => true
  | .setOffset _ => false
  | .getOffset => false
  | .isReady => false
  | .powerDown => false
  | .powerUp => false
  | .close => false
  | .readNet => true

/-- The commands that do at least one read when the handle is open: every reading command but an average of 0 reads
(R70). -/
def readsOnce : Instr → Bool
  | .openBus _ => false
  | .setGain _ => false
  | .read => true
  | .readAvg times => times != 0
  | .tare times => times != 0
  | .setOffset _ => false
  | .getOffset => false
  | .isReady => false
  | .powerDown => false
  | .powerUp => false
  | .close => false
  | .readNet => true

/-- The most transfers the command can issue: one per read (R65, R70). -/
def readLimit : Instr → Nat
  | .openBus _ => 0
  | .setGain _ => 0
  | .read => 1
  | .readAvg times => times.toNat
  | .tare times => times.toNat
  | .setOffset _ => 0
  | .getOffset => 0
  | .isReady => 0
  | .powerDown => 0
  | .powerUp => 0
  | .close => 0
  | .readNet => 1

/-- The command is OPEN. -/
def isOpenCmd : Instr → Bool
  | .openBus _ => true
  | .setGain _ => false
  | .read => false
  | .readAvg _ => false
  | .tare _ => false
  | .setOffset _ => false
  | .getOffset => false
  | .isReady => false
  | .powerDown => false
  | .powerUp => false
  | .close => false
  | .readNet => false

/-- The error statuses a command may report, by the table of R86 (`E_ILLEGAL_CMD` of an ill-formed tag included). -/
def mayReport : Instr → List Status
  | .openBus _ => [.ok, .ioOpen, .ioConfig, .illegalCmd, .illegalState]
  | .setGain _ => [.ok, .illegalCmd, .illegalState]
  | .read => [.ok, .ioTransfer, .ioClose, .notOpen, .illegalState, .malformed]
  | .readAvg _ => [.ok, .ioTransfer, .ioClose, .notOpen, .divZero, .illegalState, .malformed]
  | .tare _ => [.ok, .ioTransfer, .ioClose, .notOpen, .divZero, .illegalState, .malformed]
  | .setOffset _ => [.ok, .illegalState]
  | .getOffset => [.ok, .illegalState]
  | .isReady => [.ok, .illegalState]
  | .powerDown => [.ok, .illegalState]
  | .powerUp => [.ok, .illegalState]
  | .close => [.ok, .ioClose, .illegalState]
  | .readNet => [.ok, .ioTransfer, .ioClose, .notOpen, .illegalState, .malformed]

/-- R44, read on the word's bits: a reserved opcode, or OPEN or SET_GAIN with tag 3 or nonzero `arg[31:2]`. -/
def illegalWord (w : CmdWord) : Prop :=
  w.extractLsb' 32 4 ∈ [0x0#4, 0xD#4, 0xE#4, 0xF#4] ∨
  (w.extractLsb' 32 4 ∈ [0x1#4, 0x2#4] ∧ (w.extractLsb' 0 2 = 3#2 ∨ w.extractLsb' 2 30 ≠ 0#30))

/-! ## Averages -/

/-- The exact sum of the values of the first `n` response buffers (R73). -/
def readSum (m : SignMode) (rx : Nat → Buf7) : Nat → Int
  | 0 => 0
  | n + 1 => readSum m rx n + (valueOf m (rx n)).toInt

/-- `n` transfers of the waveform `w`, answered by the first `n` response buffers. -/
def transfers (w : Buf7) (rx : Nat → Buf7) (n : Nat) : List BusEvent :=
  (List.range n).map fun k => .busTransfer w (.ok (rx k).toList)

/-! ## The bus protocol (R35, R53, R54, R85) -/

/-- Where the handle is: not held; opened but not yet configured; opened and refused its configuration; held. -/
inductive BusPhase where
  | released
  | acquired
  | failed
  | held
  deriving DecidableEq, Repr

/-- The transactions the protocol allows in each phase, and the phase after; `none` is a transaction it forbids, such
as a second close of one handle, a transfer on a released one, or a second configure. -/
def BusPhase.after : BusPhase → BusEvent → Option BusPhase
  | .released, .busOpen _ .ok => some .acquired
  | .released, .busOpen _ .err => some .released
  | .released, .busOpen _ .never => some .released
  | .acquired, .busConfigure _ _ _ .ok => some .held
  | .acquired, .busConfigure _ _ _ .err => some .failed
  | .acquired, .busConfigure _ _ _ .never => some .acquired
  | .failed, .busClose _ => some .released
  | .held, .busTransfer _ _ => some .held
  | .held, .busClose _ => some .released
  | _, _ => none

/-- The phase after a list of transactions, from `p`. -/
def busPhaseFrom (p : BusPhase) : List BusEvent → Option BusPhase
  | [] => some p
  | e :: es => (p.after e).bind fun q => busPhaseFrom q es

/-- The phase after all transactions of a state: no handle is held at reset. -/
def State.phase (s : State) : Option BusPhase := busPhaseFrom .released s.bus.trace

/-- The phase `LIFE` stands for between commands (R14). -/
def Life.phase : Life → BusPhase
  | .none => .released
  | .opened => .held
  | .closed => .released

/-- A command is waiting for a transport that never answers (R102). -/
def State.hung (s : State) : Bool := s.busy && !s.rspValid

/-! ## The invariant -/

/-- What every reachable state keeps: a presented response belongs to a running command (R19, R45); every transaction
obeyed the bus protocol, and unless a command hangs `LIFE` tells whether the handle is held (R14, R85); the waveform
table is legal (R6 (2)); a response with an error carries data 0 (R10). -/
structure State.Inv (s : State) : Prop where
  handshake : s.rspValid = true → s.busy = true
  protocol : s.phase.isSome = true
  handle : s.hung = false → s.phase = some s.life.phase
  waveform : s.par.wave.legal = true
  errorData : s.rsp.err ≠ .ok → s.rsp.data = 0
  errorsTaken : ∀ r ∈ s.responses, r.err ≠ .ok → r.data = 0

end Sys2Proof.Machine
end

