-- ==== Sys2Proof/Certificates/Slice0/Obligations.lean ====
section
/-! DEFINITION. The statements for the provers. Three shapes of outcome are said once, before them: a command that
touches only registers, a command that does one read, and the answers of an average. -/

open Sys2Proof Sys2Proof.Machine

namespace Sys2Proof.Machine

/-- A command without bus traffic: refused in `NONE` with nothing changed; elsewhere it completes with the response
`r` and the view `a`, the transport port untouched. -/
def LocalOutcomes (i : Instr) (s : State) (r : Response) (a : Arch) : Prop :=
  (s.life = .none → ∃ t, exec i s = .next t ∧ Answers t ⟨.illegalState, 0⟩ ∧ t.arch = s.arch ∧ t.bus = s.bus) ∧
  (s.life ≠ .none → ∃ t, exec i s = .next t ∧ Answers t r ∧ t.arch = a ∧ t.bus = s.bus)

/-- Every way a command that does one read can go; `result` turns the read's value into the response's data. The
unanswered cases are hangs (R102; log entry 5), the case of another length than 7 is that of a list transport (R34,
R95; log entry 6). -/
def SingleReadOutcomes (i : Instr) (s : State) (result : Word → Word) : Prop :=
  (s.life = .none → ∃ t, exec i s = .next t ∧ Answers t ⟨.illegalState, 0⟩ ∧ t.arch = s.arch ∧ t.bus = s.bus) ∧
  (s.life = .closed → ∃ t, exec i s = .next t ∧ Answers t ⟨.notOpen, 0⟩ ∧ t.arch = s.arch ∧ t.bus = s.bus) ∧
  (s.life = .opened →
    (s.bus.xferAt 0 = .err → ∃ t, exec i s = .next t ∧ Answers t ⟨.ioTransfer, 0⟩ ∧ t.arch = s.arch ∧
      Issued s t [.busTransfer (s.par.wave.sel s.gainSel) .err]) ∧
    (∀ l, s.bus.xferAt 0 = .ok l → l.length ≠ 7 → ∃ t, exec i s = .next t ∧ Answers t ⟨.malformed, 0⟩ ∧
      t.arch = s.arch ∧ Issued s t [.busTransfer (s.par.wave.sel s.gainSel) (.ok l)]) ∧
    (s.bus.xferAt 0 = .never → ∃ t, exec i s = .next t ∧ Waits s t ∧ t.arch = s.arch ∧
      t.dp.txBuf = s.par.wave.sel s.gainSel ∧ Issued s t [.busTransfer (s.par.wave.sel s.gainSel) .never]) ∧
    (∀ rx, s.bus.xferAt 0 = .ok rx.toList →
      (s.par.autoClose = false → ∃ t, exec i s = .next t ∧
        Answers t ⟨.ok, result (ext s.par.signMode (decode24 rx))⟩ ∧ t.arch = s.arch ∧
        Issued s t [.busTransfer (s.par.wave.sel s.gainSel) (.ok rx.toList)]) ∧
      (s.par.autoClose = true →
        (s.bus.ackAt 0 = .ok → ∃ t, exec i s = .next t ∧
          Answers t ⟨.ok, result (ext s.par.signMode (decode24 rx))⟩ ∧ t.arch = { s.arch with life := .closed } ∧
          Issued s t [.busTransfer (s.par.wave.sel s.gainSel) (.ok rx.toList), .busClose .ok]) ∧
        (s.bus.ackAt 0 = .err → ∃ t, exec i s = .next t ∧ Answers t ⟨.ioClose, 0⟩ ∧
          t.arch = { s.arch with life := .closed } ∧
          Issued s t [.busTransfer (s.par.wave.sel s.gainSel) (.ok rx.toList), .busClose .err]) ∧
        (s.bus.ackAt 0 = .never → ∃ t, exec i s = .next t ∧ Waits s t ∧
          t.arch = { s.arch with life := .closed } ∧ t.dp.rxBuf = rx ∧ t.dp.raw = decode24 rx ∧
          t.dp.val = ext s.par.signMode (decode24 rx) ∧
          Issued s t [.busTransfer (s.par.wave.sel s.gainSel) (.ok rx.toList), .busClose .never]))))

/-- The first `n` transfers from `s` are answered with the 7-byte buffers `rx 0`, `rx 1`, ... -/
def AnsweredBy (s : State) (rx : Nat → Buf7) (n : Nat) : Prop := ∀ k, k < n → s.bus.xferAt k = .ok (rx k).toList

/-- Two answers of the transport that differ at most in don't-care bits (R68): both the same kind, and, where they carry
bytes, equally many, with bits 6, 4, 2 and 0 of bytes 0 to 5 alike. -/
def agreeOnData : XferAnswer → XferAnswer → Bool
  | .ok xs, .ok ys =>
    xs.length == ys.length && (List.range 6).all fun k => xs.getD k 0 &&& 0x55#8 == ys.getD k 0 &&& 0x55#8
  | .err, .err => true
  | .never, .never => true
  | _, _ => false

/-- The command's first transaction is one the transport never answers. -/
def BlockedAtOnce (i : Instr) (s : State) : Prop :=
  (isOpenCmd i = true ∧ s.life ≠ .opened ∧ s.bus.ackAt 0 = .never) ∨
  (readsOnce i = true ∧ s.life = .opened ∧ s.bus.xferAt 0 = .never) ∨
  (i = .close ∧ s.life = .opened ∧ s.bus.ackAt 0 = .never)

end Sys2Proof.Machine

/-! ## Reset, parameters, waveforms -/

/-- R106: `LIFE = NONE`, `BUSY = 0` (`cmd_ready = 1`), `rsp_valid = 0`, `WAVE` the parameter, the bus configuration its
constants (R18), no transaction issued. -/
def Obligations.ResetState : Prop :=
  State.reset.life = .none ∧ State.reset.busy = false ∧ cmdReady State.reset = true ∧
  State.reset.rspValid = false ∧ State.reset.par = Config.params ∧ State.reset.bus.trace = [] ∧
  Config.cfgFreq = 115200 ∧ Config.cfgMode = 0 ∧ Config.cfgBpw = 8

/-- R43: the tags, gains and pulse counts of the variants; tag 3 has none. -/
def Obligations.GainTags : Prop :=
  Gain.ofTag 0#2 = some .g128 ∧ Gain.ofTag 1#2 = some .g64 ∧ Gain.ofTag 2#2 = some .g32 ∧ Gain.ofTag 3#2 = none ∧
  (∀ g : Gain, Gain.ofTag g.tag = some g) ∧
  Gain.gain .g128 = 128 ∧ Gain.gain .g64 = 64 ∧ Gain.gain .g32 = 32 ∧
  Gain.pulses .g128 = 25 ∧ Gain.pulses .g64 = 26 ∧ Gain.pulses .g32 = 27

/-- R6 (2): every entry of the platform's table has its variant's pulse count, no legal table is shut out by how the
table is formed (log entry 8, the model's choice), and the D4 candidates are legal. -/
def Obligations.WaveformTableLegal : Prop :=
  (∀ g, pulseCount (State.reset.par.wave.sel g) = g.pulses) ∧
  (∀ (t : Waveforms) (g : Gain), t.legal = true → legalEntry g (t.sel g) = t.sel g) ∧
  (∀ g, candidateTable.sel g = candidateWave g ∧ pulseCount (candidateWave g) = g.pulses)

/-- R26, R17: no step changes the waveform table, the sign mode, the auto-close switch or the bus name. -/
def Obligations.ParametersNeverChange : Prop :=
  ∀ s t, step s = .next t → t.par = s.par

/-! ## Encoding -/

/-- R40 to R42: decoding an encoded well-formed command gives it back, with every operand value. -/
def Obligations.DecodeOfEncode : Prop :=
  ∀ i : Instr, i.wf = true → decode (encode i) = .instr i

/-- R41, R42: a word that decodes is well-formed, and encodes back to itself on the bits its command reads. -/
def Obligations.EncodeOfDecode : Prop :=
  ∀ (w : CmdWord) (i : Instr), decode w = .instr i → i.wf = true ∧ encode i = w &&& i.careMask

/-- R44, R93: the illegal words are exactly those of R44, and each is refused with `E_ILLEGAL_CMD`, nothing changed
but the response, the handshake bit and the word taken from the port, and no transaction issued. That the word is
accepted like a legal one, raises `BUSY` and leaves the port is the model's (log entries 1, 15 and 17). -/
def Obligations.IllegalWordsRefused : Prop :=
  ∀ w : CmdWord, (illegalWord w ↔ ∃ r, decode w = .illegal r) ∧
    ∀ s rest, illegalWord w → s.busy = false → s.cmds = w :: rest →
      ∃ t, step s = .next t ∧ Answers t ⟨.illegalCmd, 0⟩ ∧ t.arch = { s.arch with busy := true, cmds := rest } ∧
        t.bus = s.bus

/-- R42: the seven commands that ignore `arg` accept every value of it. -/
def Obligations.IgnoredArgumentsAccepted : Prop :=
  ∀ arg : Word, decode (0x3#4 ++ arg) = .instr .read ∧ decode (0x7#4 ++ arg) = .instr .getOffset ∧
    decode (0x8#4 ++ arg) = .instr .isReady ∧ decode (0x9#4 ++ arg) = .instr .powerDown ∧
    decode (0xA#4 ++ arg) = .instr .powerUp ∧ decode (0xB#4 ++ arg) = .instr .close ∧
    decode (0xC#4 ++ arg) = .instr .readNet

/-- Words the spec writes out, with the commands they stand for (R48, and the examples of the command rules). -/
def Obligations.SpecWordsDecode : Prop :=
  decode 0x100000001#36 = .instr (.openBus 1) ∧ decode 0x200000002#36 = .instr (.setGain 2) ∧
  decode 0x300000000#36 = .instr .read ∧ decode 0x400000003#36 = .instr (.readAvg 3) ∧
  decode 0x500000002#36 = .instr (.tare 2) ∧ decode 0x6FFFFFFFB#36 = .instr (.setOffset (-5)) ∧
  decode 0x700000000#36 = .instr .getOffset ∧ decode 0x800000000#36 = .instr .isReady ∧
  decode 0x900000000#36 = .instr .powerDown ∧ decode 0xA00000000#36 = .instr .powerUp ∧
  decode 0xB00000000#36 = .instr .close ∧ decode 0xC00000000#36 = .instr .readNet

/-- R48, R49: one line for each of the twelve mnemonics and one for each of the eleven aliases, with its word; the three
spellings of a gain, and the spec's examples; the nine hex digits of a word. -/
def Obligations.AssemblyExamples : Prop :=
  assemble "OPEN G64" = some 0x100000001#36 ∧ assemble "SET_OFFSET -5" = some 0x6FFFFFFFB#36 ∧
  assemble "SET_OFFSET 0x80000000" = some 0x680000000#36 ∧ assemble "READ_AVG 3" = some 0x400000003#36 ∧
  assemble "OPEN G128" = some 0x100000000#36 ∧ assemble "OPEN 1" = some 0x100000001#36 ∧
  assemble "SET_GAIN G32" = some 0x200000002#36 ∧ assemble "SET_GAIN 2" = some 0x200000002#36 ∧
  assemble "READ" = some 0x300000000#36 ∧ assemble "TARE 2" = some 0x500000002#36 ∧
  assemble "GET_OFFSET" = some 0x700000000#36 ∧ assemble "IS_READY" = some 0x800000000#36 ∧
  assemble "POWER_DOWN" = some 0x900000000#36 ∧ assemble "POWER_UP" = some 0xA00000000#36 ∧
  assemble "CLOSE" = some 0xB00000000#36 ∧ assemble "READ_NET" = some 0xC00000000#36 ∧
  assemble "construct G64" = some 0x100000001#36 ∧ assemble "setGain G32" = some 0x200000002#36 ∧
  assemble "read" = some 0x300000000#36 ∧ assemble "readAverage 3" = some 0x400000003#36 ∧
  assemble "tare 2" = some 0x500000002#36 ∧ assemble "setOffset -5" = some 0x6FFFFFFFB#36 ∧
  assemble "getOffset" = some 0x700000000#36 ∧ assemble "isReady" = some 0x800000000#36 ∧
  assemble "powerDown" = some 0x900000000#36 ∧ assemble "powerUp" = some 0xA00000000#36 ∧
  assemble "close" = some 0xB00000000#36 ∧
  hex9 0x100000001#36 = "0x100000001".toList

/-! ## The step and the ports -/

/-- R40, R47: with `BUSY = 0` and a legal word on the port, a step is the command that word stands for, run in the
state with the word taken and `BUSY = 1`. -/
def Obligations.StepRunsDecodedCommand : Prop :=
  ∀ s w rest i, s.busy = false → s.cmds = w :: rest → decode w = .instr i →
    step s = exec i { s with busy := true, rspValid := false, cmds := rest }

/-- With no command on the port the block waits for the next command (R98). -/
def Obligations.IdleStepWaits : Prop :=
  ∀ s, s.busy = false → s.cmds = [] → step s = .next s

/-- R45: the response is held until `rsp_ready = 1`, and `BUSY` clears when it is taken. -/
def Obligations.ResponseHeldUntilTaken : Prop :=
  ∀ s, s.busy = true → s.rspValid = true →
    (s.rspReady = false → step s = .next s) ∧
    (s.rspReady = true → ∃ t, step s = .next t ∧ cmdReady t = true ∧ t.rspValid = false ∧ t.rsp = s.rsp ∧
      t.arch = { s.arch with busy := false, responses := s.responses ++ [s.rsp] } ∧ t.bus = s.bus ∧ t.dp = s.dp)

/-- R19, R109: while `BUSY = 1` the words on the command port are held, not taken and not dropped, and nothing runs. -/
def Obligations.CommandsHeldWhileBusy : Prop :=
  ∀ s t, s.busy = true → step s = .next t →
    t.cmds = s.cmds ∧ t.life = s.life ∧ t.gainSel = s.gainSel ∧ t.offset = s.offset ∧ t.bus = s.bus

/-- R98: a step always answers a next state: the block has no faults, and every error is a response. -/
def Obligations.StepAlwaysAnswersNext : Prop :=
  ∀ s, ∃ t, step s = .next t

/-- R102: a transport that never answers leaves the command, and the block, waiting for ever, whatever number of
steps pass: there is no timeout. (1) A busy block with no response presented never moves. (2) A step that accepts a word
and presents no response leaves such a state. (3) A command presents no response exactly when a transaction it issued, be
it the first or a later one, was never answered. (4) The commands whose first transaction is never answered. (5) READ_AVG
and TARE whose read number k is never answered after k answered ones, and (6) whose first read's auto-close is never
answered: what they leave and issue. That a hang is a state that steps to itself, the writes before it kept, is log
entry 5, and that a command runs in one step log entry 15, both the model's. -/
def Obligations.UnansweredCommandWaitsForEver : Prop :=
  (∀ s, s.busy = true → s.rspValid = false → ∀ k, Sys2Proof.core.run k s = .next s) ∧
  (∀ s t, s.busy = false → s.cmds ≠ [] → step s = .next t → t.rspValid = false →
    t.busy = true ∧ t.cmds = s.cmds.tail ∧ ∀ k, Sys2Proof.core.run (k + 1) s = .next t) ∧
  (∀ i s t, s.rspValid = false → exec i s = .next t →
    ∃ es, Issued s t es ∧ (t.rspValid = false ↔ ∃ e ∈ es, BusEvent.unanswered e = true)) ∧
  (∀ s w rest i, s.busy = false → s.cmds = w :: rest → decode w = .instr i → BlockedAtOnce i s →
    ∃ t, t.busy = true ∧ t.rspValid = false ∧ t.cmds = rest ∧ ∀ k, Sys2Proof.core.run (k + 1) s = .next t) ∧
  (∀ s (times : Word) (rx : Nat → Buf7) (k : Nat), s.life = .opened → k < times.toNat →
    (s.par.autoClose = false ∨ k = 0) → AnsweredBy s rx k → s.bus.xferAt k = .never →
    ∀ i, i = .readAvg times ∨ i = .tare times →
    ∃ t, exec i s = .next t ∧ Waits s t ∧ t.arch = s.arch ∧
      Issued s t (transfers (s.par.wave.sel s.gainSel) rx k ++ [.busTransfer (s.par.wave.sel s.gainSel) .never])) ∧
  (∀ s (times : Word) (rx : Buf7), s.life = .opened → s.par.autoClose = true → times ≠ 0 →
    s.bus.xferAt 0 = .ok rx.toList → s.bus.ackAt 0 = .never → ∀ i, i = .readAvg times ∨ i = .tare times →
    ∃ t, exec i s = .next t ∧ Waits s t ∧ t.arch = { s.arch with life := .closed } ∧
      Issued s t [.busTransfer (s.par.wave.sel s.gainSel) (.ok rx.toList), .busClose .never])

/-- R36 (4): one response per command: words presented, command running and responses taken always add up. -/
def Obligations.OneResponsePerCommand : Prop :=
  ∀ s t, step s = .next t →
    t.cmds.length + t.busy.toNat + t.responses.length = s.cmds.length + s.busy.toNat + s.responses.length ∧
    (t.responses = s.responses ∨ t.responses = s.responses ++ [s.rsp])

/-- R36: transactions form one total order: a step only adds to the end of the trace. -/
def Obligations.TransactionsOnlyAppend : Prop :=
  ∀ s t, step s = .next t → ∃ es, Issued s t es

/-! ## Lifecycle -/

/-- R94: a command other than OPEN in `NONE`, or OPEN in `OPEN`, is refused with `E_ILLEGAL_STATE`; nothing changes but
the response, and there is no transaction. The tag of SET_GAIN and OPEN is legal, as for every decoded word. -/
def Obligations.IllegalStateRefused : Prop :=
  ∀ i s, i.wf = true →
    ((isOpenCmd i = false ∧ s.life = .none) ∨ (isOpenCmd i = true ∧ s.life = .opened)) →
    ∃ t, exec i s = .next t ∧ Answers t ⟨.illegalState, 0⟩ ∧ t.arch = s.arch ∧ t.bus = s.bus

/-- R55: only OPEN leaves `NONE`; every other command there is refused; a successful OPEN configures exactly once; and
no other command ever configures. -/
def Obligations.OnlyOpenConstructs : Prop :=
  (∀ i s t, exec i s = .next t → s.life = .none → t.life ≠ .none → isOpenCmd i = true) ∧
  (∀ i s, i.wf = true → isOpenCmd i = false → s.life = .none →
    ∃ t, exec i s = .next t ∧ Answers t ⟨.illegalState, 0⟩) ∧
  (∀ i s t, exec i s = .next t → s.life ≠ .opened → t.life = .opened →
    ∃ es, Issued s t es ∧ es.countP BusEvent.isConfigure = 1) ∧
  (∀ i s t, exec i s = .next t → isOpenCmd i = false →
    ∃ es, Issued s t es ∧ es.countP BusEvent.isConfigure = 0)

/-- R14: the transitions of `LIFE`: none, OPEN's to `OPEN`, and from `OPEN` to `CLOSED` by CLOSE or, with `AUTO_CLOSE`,
by a reading command. -/
def Obligations.LifeTransitions : Prop :=
  ∀ i s t, exec i s = .next t →
    t.life = s.life ∨
    (isOpenCmd i = true ∧ s.life ≠ .opened ∧ t.life = .opened) ∨
    (s.life = .opened ∧ t.life = .closed ∧ (i = .close ∨ (reading i = true ∧ s.par.autoClose = true)))

/-- R53, R87, R88: every outcome of OPEN, its errors in their order, what it writes and what it issues. The three
unanswered cases are hangs of R102, in the model's reading: the state kept is log entry 5, and the wait for the cleanup
close log entry 19. -/
def Obligations.OpenOutcomes : Prop :=
  (∀ s (arg : Word), arg.extractLsb' 2 30 ≠ 0#30 →
    ∃ t, runWord (0x1#4 ++ arg) s = .next t ∧ Answers t ⟨.illegalCmd, 0⟩ ∧ t.arch = s.arch ∧ t.bus = s.bus) ∧
  ∀ s (tag : BitVec 2),
    (tag = 3#2 → ∃ t, exec (.openBus tag) s = .next t ∧ Answers t ⟨.illegalCmd, 0⟩ ∧ t.arch = s.arch ∧
      t.bus = s.bus) ∧
    (∀ g, Gain.ofTag tag = some g →
      (s.life = .opened → ∃ t, exec (.openBus tag) s = .next t ∧ Answers t ⟨.illegalState, 0⟩ ∧ t.arch = s.arch ∧
        t.bus = s.bus) ∧
      (s.life ≠ .opened →
        (s.bus.ackAt 0 = .err → ∃ t, exec (.openBus tag) s = .next t ∧ Answers t ⟨.ioOpen, 0⟩ ∧ t.arch = s.arch ∧
          Issued s t [.busOpen s.par.busName .err]) ∧
        (s.bus.ackAt 0 = .ok → s.bus.ackAt 1 = .err → s.bus.ackAt 2 ≠ .never →
          ∃ t, exec (.openBus tag) s = .next t ∧ Answers t ⟨.ioConfig, 0⟩ ∧ t.arch = s.arch ∧
            Issued s t [.busOpen s.par.busName .ok, .busConfigure 115200 0 8 .err, .busClose (s.bus.ackAt 2)]) ∧
        (s.bus.ackAt 0 = .ok → s.bus.ackAt 1 = .ok →
          ∃ t, exec (.openBus tag) s = .next t ∧ Answers t ⟨.ok, 0⟩ ∧
            t.arch = { s.arch with life := .opened, gainSel := g, offset := 0 } ∧
            Issued s t [.busOpen s.par.busName .ok, .busConfigure 115200 0 8 .ok]) ∧
        (s.bus.ackAt 0 = .never → ∃ t, exec (.openBus tag) s = .next t ∧ Waits s t ∧ t.arch = s.arch ∧
          Issued s t [.busOpen s.par.busName .never]) ∧
        (s.bus.ackAt 0 = .ok → s.bus.ackAt 1 = .never → ∃ t, exec (.openBus tag) s = .next t ∧ Waits s t ∧
          t.arch = s.arch ∧ Issued s t [.busOpen s.par.busName .ok, .busConfigure 115200 0 8 .never]) ∧
        (s.bus.ackAt 0 = .ok → s.bus.ackAt 1 = .err → s.bus.ackAt 2 = .never →
          ∃ t, exec (.openBus tag) s = .next t ∧ Waits s t ∧ t.arch = s.arch ∧
            Issued s t [.busOpen s.par.busName .ok, .busConfigure 115200 0 8 .err, .busClose .never])))

/-- R54: after any OPEN that ends in an error, no register changed, the code is the failed transaction's and never the
cleanup close's, and the transactions are none, a failed open, or an opened handle closed exactly once, so that none is
held. -/
def Obligations.OpenFailureLaw : Prop :=
  ∀ tag s t, s.rspValid = false → exec (.openBus tag) s = .next t → t.rspValid = true → t.rsp.err ≠ .ok →
    t.arch = s.arch ∧ t.rsp.err ≠ .ioClose ∧
    ∃ es, Issued s t es ∧ busPhaseFrom .released es = some .released ∧ es.countP BusEvent.isClose ≤ 1 ∧
      (es.countP BusEvent.isClose = 1 → .busOpen s.par.busName .ok ∈ es) ∧
      (t.rsp.err = .ioOpen ↔ .busOpen s.par.busName .err ∈ es) ∧
      (t.rsp.err = .ioConfig ↔ .busConfigure 115200 0 8 .err ∈ es)

/-- R84: every outcome of CLOSE. The unanswered close is a hang of R102, which leaves `LIFE = CLOSED` in the model's
reading (log entry 5). -/
def Obligations.CloseOutcomes : Prop :=
  ∀ s,
    (s.life = .none → ∃ t, exec .close s = .next t ∧ Answers t ⟨.illegalState, 0⟩ ∧ t.arch = s.arch ∧
      t.bus = s.bus) ∧
    (s.life = .closed → ∃ t, exec .close s = .next t ∧ Answers t ⟨.ok, 0⟩ ∧ t.arch = s.arch ∧ t.bus = s.bus) ∧
    (s.life = .opened →
      (s.bus.ackAt 0 = .ok → ∃ t, exec .close s = .next t ∧ Answers t ⟨.ok, 0⟩ ∧
        t.arch = { s.arch with life := .closed } ∧ Issued s t [.busClose .ok]) ∧
      (s.bus.ackAt 0 = .err → ∃ t, exec .close s = .next t ∧ Answers t ⟨.ioClose, 0⟩ ∧
        t.arch = { s.arch with life := .closed } ∧ Issued s t [.busClose .err]) ∧
      (s.bus.ackAt 0 = .never → ∃ t, exec .close s = .next t ∧ Waits s t ∧
        t.arch = { s.arch with life := .closed } ∧ Issued s t [.busClose .never]))

/-- R90: a failed close, in CLOSE or in an auto-close, leaves `LIFE = CLOSED`, and the read's value is discarded. -/
def Obligations.FailedCloseReleases : Prop :=
  ∀ s, s.life = .opened → s.bus.ackAt 0 = .err →
    (∃ t, exec .close s = .next t ∧ Answers t ⟨.ioClose, 0⟩ ∧ t.arch = { s.arch with life := .closed }) ∧
    (∀ i rx, readsOnce i = true → s.par.autoClose = true → s.bus.xferAt 0 = .ok (Buf7.toList rx) →
      ∃ t, exec i s = .next t ∧ Answers t ⟨.ioClose, 0⟩ ∧ t.arch = { s.arch with life := .closed })

/-- R85: in a state that meets the invariant, between any two closes the block issued, an open was issued; and in
`CLOSED` or `NONE` no command but OPEN issues any transaction. -/
def Obligations.AtMostOneCloseBetweenOpens : Prop :=
  (∀ s : State, s.Inv → ∀ pre mid post a b,
    s.bus.trace = pre ++ .busClose a :: mid ++ .busClose b :: post → ∃ e ∈ mid, BusEvent.isOpen e = true) ∧
  (∀ i s t, isOpenCmd i = false → s.life ≠ .opened → exec i s = .next t → t.bus = s.bus)

/-! ## Registers -/

/-- R57: every outcome of SET_GAIN. -/
def Obligations.SetGainOutcomes : Prop :=
  (∀ s (arg : Word), arg.extractLsb' 2 30 ≠ 0#30 →
    ∃ t, runWord (0x2#4 ++ arg) s = .next t ∧ Answers t ⟨.illegalCmd, 0⟩ ∧ t.arch = s.arch ∧ t.bus = s.bus) ∧
  ∀ s (tag : BitVec 2),
    (tag = 3#2 → ∃ t, exec (.setGain tag) s = .next t ∧ Answers t ⟨.illegalCmd, 0⟩ ∧ t.arch = s.arch ∧
      t.bus = s.bus) ∧
    (∀ g, Gain.ofTag tag = some g → LocalOutcomes (.setGain tag) s ⟨.ok, 0⟩ { s.arch with gainSel := g })

/-- R76: SET_OFFSET writes any 32-bit value, and nothing else. -/
def Obligations.SetOffsetOutcomes : Prop :=
  ∀ s (v : Word), LocalOutcomes (.setOffset v) s ⟨.ok, 0⟩ { s.arch with offset := v }

/-- R77: GET_OFFSET answers `OFFSET` and writes nothing. -/
def Obligations.GetOffsetOutcomes : Prop :=
  ∀ s, LocalOutcomes .getOffset s ⟨.ok, s.offset⟩ s.arch

/-- R81: IS_READY answers 1 in `OPEN` and in `CLOSED`, and writes nothing. -/
def Obligations.IsReadyOutcomes : Prop :=
  ∀ s, LocalOutcomes .isReady s ⟨.ok, 1⟩ s.arch

/-- R82: POWER_DOWN is a no-op: it writes nothing, issues nothing, and every later command runs as if it had not been
issued. -/
def Obligations.PowerDownChangesNothing : Prop :=
  ∀ s, LocalOutcomes .powerDown s ⟨.ok, 0⟩ s.arch ∧
    ∀ i t u v, exec .powerDown s = .next t → exec i s = .next u → exec i t = .next v →
      v.arch = u.arch ∧ v.bus = u.bus ∧ (u.rspValid = true → s.rspValid = false → v.rsp = u.rsp)

/-- R83: POWER_UP is a no-op. -/
def Obligations.PowerUpChangesNothing : Prop :=
  ∀ s, LocalOutcomes .powerUp s ⟨.ok, 0⟩ s.arch

/-- R78: the subtractor is the true difference modulo 2^32, exact where that lies in [-2^31, 2^31-1], so exact for
every offset in the range of a read or an average; and the corner the rule works out. -/
def Obligations.SubtractorLaw : Prop :=
  ∀ v o : Word, (net v o).toInt = (v.toInt - o.toInt).bmod (2 ^ 32) ∧
    (-(2 : Int) ^ 31 ≤ v.toInt - o.toInt → v.toInt - o.toInt < (2 : Int) ^ 31 →
      (net v o).toInt = v.toInt - o.toInt) ∧
    (-(2 : Int) ^ 23 ≤ v.toInt → v.toInt < (2 : Int) ^ 24 → -(2 : Int) ^ 23 ≤ o.toInt → o.toInt < (2 : Int) ^ 24 →
      (net v o).toInt = v.toInt - o.toInt) ∧
    (0 ≤ v.toInt → (net v 0x80000000#32).toInt = v.toInt - (2 : Int) ^ 31) ∧
    net 0#32 0x80000000#32 = 0x80000000#32

/-! ## The decoder -/

/-- R61: the nibble of a byte, by its formula. -/
def Obligations.NibbleFormula : Prop :=
  ∀ b : Byte, (nib b).toNat = 8 * (1 - (b.getLsbD 6).toNat) + 4 * (1 - (b.getLsbD 4).toNat) +
    2 * (1 - (b.getLsbD 2).toNat) + (1 - (b.getLsbD 0).toNat)

/-- R62: the raw word is the six nibbles, the first byte's most significant; byte 6 is not read. -/
def Obligations.WordAssembly : Prop :=
  ∀ rx : Buf7, (decode24 rx).toNat = (nib rx.b0).toNat * 16 ^ 5 + (nib rx.b1).toNat * 16 ^ 4 +
    (nib rx.b2).toNat * 16 ^ 3 + (nib rx.b3).toNat * 16 ^ 2 + (nib rx.b4).toNat * 16 + (nib rx.b5).toNat

/-- R63: bit `23 - (4k + j)` of the raw word is the complement of bit `6 - 2j` of byte `k`. -/
def Obligations.DecoderBitMap : Prop :=
  ∀ (rx : Buf7) (k j : Nat), k < 6 → j < 4 →
    (decode24 rx).getLsbD (23 - (4 * k + j)) = !(rx.byte k).getLsbD (6 - 2 * j)

/-- R64: the two sign modes, their ranges, where they agree and by how much they differ. -/
def Obligations.SignStage : Prop :=
  ∀ raw : BitVec 24, (ext .zext raw).toInt = raw.toNat ∧ (ext .sext24 raw).toInt = raw.toInt ∧
    0 ≤ (ext .zext raw).toInt ∧ (ext .zext raw).toInt ≤ 16777215 ∧
    -8388608 ≤ (ext .sext24 raw).toInt ∧ (ext .sext24 raw).toInt ≤ 8388607 ∧
    (raw.getLsbD 23 = false → ext .zext raw = ext .sext24 raw) ∧
    (raw.getLsbD 23 = true → (ext .zext raw).toInt = (ext .sext24 raw).toInt + 2 ^ 24)

/-- R67: the decoder reaches every 24-bit word through `Enc`, whose don't-care bits are 0; complementing the data bytes
complements the word; which buffers give all zeros and all ones. -/
def Obligations.DecoderLaws : Prop :=
  (∀ v : BitVec 24, decode24 (enc24 v) = v ∧ (enc24 v).b6 = 0 ∧
    ∀ k, k < 6 → ((enc24 v).byte k).toNat = (1 - (v.getLsbD (23 - 4 * k)).toNat) * 2 ^ 6 +
      (1 - (v.getLsbD (22 - 4 * k)).toNat) * 2 ^ 4 + (1 - (v.getLsbD (21 - 4 * k)).toNat) * 2 ^ 2 +
      (1 - (v.getLsbD (20 - 4 * k)).toNat)) ∧
  (∀ b, (nib (~~~b)).toNat = 15 - (nib b).toNat) ∧
  (∀ a b c d e f g h, (decode24 ⟨~~~a, ~~~b, ~~~c, ~~~d, ~~~e, ~~~f, h⟩).toNat =
    0xFFFFFF - (decode24 ⟨a, b, c, d, e, f, g⟩).toNat) ∧
  (∀ rx : Buf7, decode24 rx = 0 ↔ ∀ k, k < 6 → rx.byte k &&& 0x55#8 = 0x55#8) ∧
  (∀ rx : Buf7, decode24 rx = 0xFFFFFF#24 ↔ ∀ k, k < 6 → rx.byte k &&& 0x55#8 = 0#8) ∧
  nib 0xAB#8 = 0xE#4 ∧
  (∀ g, decode24 ⟨0xAB, 0xAB, 0xAB, 0xAB, 0xAB, 0xAB, g⟩ = 0xEEEEEE#24 ∧
    decode24 ⟨0x55, 0x55, 0x55, 0x55, 0x55, 0x55, g⟩ = 0 ∧ decode24 ⟨0xFF, 0xFF, 0xFF, 0xFF, 0xFF, 0xFF, g⟩ = 0 ∧
    decode24 ⟨0xAA, 0xAA, 0xAA, 0xAA, 0xAA, 0xAA, g⟩ = 0xFFFFFF#24 ∧
    decode24 ⟨0x00, 0x00, 0x00, 0x00, 0x00, 0x00, g⟩ = 0xFFFFFF#24)

/-- R68: bits 7, 5, 3 and 1 of bytes 0 to 5 and all of byte 6 never change `RAW`, `VAL` or any response: two runs of a
command whose scripted transfers, errors, unanswered ones and answers of another length among them, differ only in those
bits end alike. -/
def Obligations.DontCareBits : Prop :=
  (∀ (rx ry : Buf7), (∀ k, k < 6 → rx.byte k &&& 0x55#8 = ry.byte k &&& 0x55#8) →
    decode24 rx = decode24 ry ∧ ∀ m, valueOf m rx = valueOf m ry) ∧
  (∀ (i : Instr) (s t u : State) (xs ys : List XferAnswer), xs.length = ys.length →
    (∀ p ∈ xs.zip ys, agreeOnData p.1 p.2 = true) →
    exec i { s with bus := { s.bus with xfers := xs } } = .next t →
    exec i { s with bus := { s.bus with xfers := ys } } = .next u →
    t.rsp = u.rsp ∧ t.rspValid = u.rspValid ∧ t.arch = u.arch)

/-! ## Reading commands -/

/-- R66: every outcome of READ; the value is not offset-corrected. Beyond R66, the hangs (R102) are log entry 5, and
`E_MALFORMED` (R95) log entry 6. -/
def Obligations.ReadOutcomes : Prop :=
  ∀ s, SingleReadOutcomes .read s fun v => v

/-- R79: every outcome of READ_NET; the transactions are READ's. Beyond R79, the hangs (R102) are log entry 5, and
`E_MALFORMED` (R95) log entry 6. -/
def Obligations.ReadNetOutcomes : Prop :=
  ∀ s, SingleReadOutcomes .readNet s fun v => net v s.offset

/-- R92: READ_AVG or TARE of 0 reads raises `E_DIV_ZERO` with no read and no transaction, in `OPEN` and in `CLOSED`. -/
def Obligations.AverageOfZeroReads : Prop :=
  ∀ s, s.life ≠ .none →
    (∃ t, exec (.readAvg 0) s = .next t ∧ Answers t ⟨.divZero, 0⟩ ∧ t.arch = s.arch ∧ t.bus = s.bus) ∧
    (∃ t, exec (.tare 0) s = .next t ∧ Answers t ⟨.divZero, 0⟩ ∧ t.arch = s.arch ∧ t.bus = s.bus)

/-- R70, R71: with the handle open and `AUTO_CLOSE = false`, READ_AVG n, n at least 1, of n answered transfers
responds the exact sum divided by n toward zero, and issues n transfers of the selected waveform. -/
def Obligations.ReadAvgAverages : Prop :=
  ∀ s (times : Word) (rx : Nat → Buf7), s.life = .opened → s.par.autoClose = false → times ≠ 0 →
    AnsweredBy s rx times.toNat →
    ∃ t, exec (.readAvg times) s = .next t ∧
      Answers t ⟨.ok, BitVec.ofInt 32 ((readSum s.par.signMode rx times.toNat).tdiv times.toNat)⟩ ∧
      t.arch = s.arch ∧ Issued s t (transfers (s.par.wave.sel s.gainSel) rx times.toNat)

/-- R72: under the same conditions TARE n stores that average in `OFFSET` and responds 0. -/
def Obligations.TareStoresAverage : Prop :=
  ∀ s (times : Word) (rx : Nat → Buf7), s.life = .opened → s.par.autoClose = false → times ≠ 0 →
    AnsweredBy s rx times.toNat →
    ∃ t, exec (.tare times) s = .next t ∧ Answers t ⟨.ok, 0⟩ ∧
      t.arch = { s.arch with
        offset := BitVec.ofInt 32 ((readSum s.par.signMode rx times.toNat).tdiv times.toNat) } ∧
      Issued s t (transfers (s.par.wave.sel s.gainSel) rx times.toNat)

/-- R89: a transfer error ends the command at once with `E_IO_TRANSFER`; `LIFE` stays `OPEN`; in an average the reads
before it stay done, the sum is discarded (`OFFSET` too keeps its value), and there is no retry. -/
def Obligations.TransferErrorEndsCommand : Prop :=
  (∀ s, s.life = .opened → s.bus.xferAt 0 = .err → ∀ i, i = .read ∨ i = .readNet →
    ∃ t, exec i s = .next t ∧ Answers t ⟨.ioTransfer, 0⟩ ∧ t.arch = s.arch ∧
      Issued s t [.busTransfer (s.par.wave.sel s.gainSel) .err]) ∧
  (∀ s (times : Word) (rx : Nat → Buf7) (k : Nat), s.life = .opened → k < times.toNat →
    (s.par.autoClose = false ∨ k = 0) → AnsweredBy s rx k → s.bus.xferAt k = .err →
    ∀ i, i = .readAvg times ∨ i = .tare times →
    ∃ t, exec i s = .next t ∧ Answers t ⟨.ioTransfer, 0⟩ ∧ t.arch = s.arch ∧
      Issued s t (transfers (s.par.wave.sel s.gainSel) rx k ++ [.busTransfer (s.par.wave.sel s.gainSel) .err]))

/-- R95: in this list-transport model (log entry 6, the model's choice) an `Ok` answer of another length than 7 to any read
of a command raises `E_MALFORMED` in place of decoding, with `LIFE` unchanged and the reads before it done; where every
answer the command can draw has 7 bytes, the port of R96, it cannot occur. -/
def Obligations.MalformedResponse : Prop :=
  (∀ s i l, s.life = .opened → readsOnce i = true → s.bus.xferAt 0 = .ok l → l.length ≠ 7 →
    ∃ t, exec i s = .next t ∧ Answers t ⟨.malformed, 0⟩ ∧ t.arch = s.arch ∧
      Issued s t [.busTransfer (s.par.wave.sel s.gainSel) (.ok l)]) ∧
  (∀ s (times : Word) (rx : Nat → Buf7) (k : Nat) l, s.life = .opened → k < times.toNat →
    (s.par.autoClose = false ∨ k = 0) → AnsweredBy s rx k → s.bus.xferAt k = .ok l → l.length ≠ 7 →
    ∀ i, i = .readAvg times ∨ i = .tare times →
    ∃ t, exec i s = .next t ∧ Answers t ⟨.malformed, 0⟩ ∧ t.arch = s.arch ∧
      Issued s t (transfers (s.par.wave.sel s.gainSel) rx k ++ [.busTransfer (s.par.wave.sel s.gainSel) (.ok l)])) ∧
  (∀ s i t, (∀ k l, k < readLimit i → s.bus.xferAt k = .ok l → l.length = 7) → s.rspValid = false →
    exec i s = .next t → t.rspValid = true → t.rsp.err ≠ .malformed)

/-- R71 (2), (3), R110: with `AUTO_CLOSE = true` an average of one read gives that read's value and leaves the handle
closed; of two or more it fails with `E_NOT_OPEN` after one transfer and one close. -/
def Obligations.AverageUnderAutoClose : Prop :=
  ∀ s (times : Word) (rx : Buf7), s.life = .opened → s.par.autoClose = true → s.bus.xferAt 0 = .ok rx.toList →
    s.bus.ackAt 0 = .ok →
    (times = 1 →
      (∃ t, exec (.readAvg times) s = .next t ∧ Answers t ⟨.ok, valueOf s.par.signMode rx⟩ ∧
        t.arch = { s.arch with life := .closed } ∧
        Issued s t [.busTransfer (s.par.wave.sel s.gainSel) (.ok rx.toList), .busClose .ok]) ∧
      (∃ t, exec (.tare times) s = .next t ∧ Answers t ⟨.ok, 0⟩ ∧
        t.arch = { s.arch with life := .closed, offset := valueOf s.par.signMode rx } ∧
        Issued s t [.busTransfer (s.par.wave.sel s.gainSel) (.ok rx.toList), .busClose .ok])) ∧
    (2 ≤ times.toNat → ∀ i, i = .readAvg times ∨ i = .tare times →
      ∃ t, exec i s = .next t ∧ Answers t ⟨.notOpen, 0⟩ ∧ t.arch = { s.arch with life := .closed } ∧
        Issued s t [.busTransfer (s.par.wave.sel s.gainSel) (.ok rx.toList), .busClose .ok])

/-- R91: a command that needs the bus in `CLOSED` raises `E_NOT_OPEN`, with no transaction. -/
def Obligations.ReadsNeedOpenHandle : Prop :=
  ∀ i s, readsOnce i = true → s.life = .closed →
    ∃ t, exec i s = .next t ∧ Answers t ⟨.notOpen, 0⟩ ∧ t.arch = s.arch ∧ t.bus = s.bus

/-- R69: with `AUTO_CLOSE = true` a read that returns a value leaves `CLOSED`; there every reading command raises
`E_NOT_OPEN`, or `E_DIV_ZERO` for an average of 0 reads, and issues nothing; and only OPEN leaves `CLOSED`. With
`AUTO_CLOSE = false` a read never changes `LIFE`. -/
def Obligations.OneShotLaw : Prop :=
  (∀ s v t, s.par.autoClose = true → readCore s = .done v t → t.life = .closed) ∧
  (∀ i s, reading i = true → s.life = .closed → ∃ t, exec i s = .next t ∧
    Answers t ⟨if readsOnce i then .notOpen else .divZero, 0⟩ ∧ t.arch = s.arch ∧ t.bus = s.bus) ∧
  (∀ i s t, s.life = .closed → isOpenCmd i = false → exec i s = .next t → t.life = .closed) ∧
  (∀ s, s.par.autoClose = false → (readCore s).state.life = s.life)

/-- R60: whatever the command, every transfer it issues sends the table's entry for `GAIN_SEL`, byte for byte. -/
def Obligations.WaveformSentIsSelected : Prop :=
  ∀ i s t, exec i s = .next t →
    ∃ es, Issued s t es ∧ ∀ tx a, BusEvent.busTransfer tx a ∈ es → tx = s.par.wave.sel s.gainSel

/-- The frame of the reading commands, however they end: only TARE writes `OFFSET`, `GAIN_SEL` is not written, and
`LIFE` is kept or closed (R66, R71, R72, R79). -/
def Obligations.ReadingFrame : Prop :=
  ∀ i s t, reading i = true → exec i s = .next t →
    t.arch = { s.arch with life := t.life, offset := t.offset } ∧ (t.life = s.life ∨ t.life = .closed) ∧
    ((∀ times, i ≠ .tare times) → t.offset = s.offset) ∧
    (s.rspValid = false → (t.rspValid = true → t.rsp.err ≠ .ok) → t.offset = s.offset)

/-- R73: the accumulator is exact: whenever the loop completes its n reads, n below 2^32, `ACC` holds the mathematical
sum of the values read, which is below 2^56 in size; with the handle open and `AUTO_CLOSE = false` it completes on n
answered reads; every value read lies in [-2^23, 2^24 - 1]. -/
def Obligations.AccumulatorExact : Prop :=
  (∀ m rx, -(2 : Int) ^ 23 ≤ (valueOf m rx).toInt ∧ (valueOf m rx).toInt ≤ 2 ^ 24 - 1) ∧
  (∀ s (rx : Nat → Buf7) (n : Nat) t, n < 2 ^ 32 → AnsweredBy s rx n →
    avgLoop n (clearAccumulator s) = .done () t →
    t.dp.acc.toInt = readSum s.par.signMode rx n ∧ t.dp.cnt.toNat = n ∧
      (readSum s.par.signMode rx n).natAbs < 2 ^ 56) ∧
  (∀ s (rx : Nat → Buf7) (n : Nat), s.life = .opened → s.par.autoClose = false → AnsweredBy s rx n →
    ∃ t, avgLoop n (clearAccumulator s) = .done () t)

/-- R74: the division law of the average of n at least 1 values. -/
def Obligations.DivisionLaw : Prop :=
  ∀ (m : SignMode) (rx : Nat → Buf7) (n : Nat), 1 ≤ n →
    (∃ r : Int, truncDiv (readSum m rx n) n * n + r = readSum m rx n ∧ r.natAbs < n ∧
      (0 ≤ readSum m rx n → 0 ≤ r) ∧ (readSum m rx n ≤ 0 → r ≤ 0)) ∧
    (∀ lo hi : Int, (∀ k, k < n → lo ≤ (valueOf m (rx k)).toInt ∧ (valueOf m (rx k)).toInt ≤ hi) →
      lo ≤ truncDiv (readSum m rx n) n ∧ truncDiv (readSum m rx n) n ≤ hi) ∧
    (BitVec.ofInt 32 (truncDiv (readSum m rx n) n)).toInt = truncDiv (readSum m rx n) n ∧
    (m = .zext → truncDiv (readSum m rx n) n = (readSum m rx n).fdiv n)

/-- R75: a constant transport averages to the single read's value; TARE then GET_OFFSET answers READ_AVG's result; and
TARE is READ_AVG followed, on success, by SET_OFFSET of its result. -/
def Obligations.TareEquivalences : Prop :=
  (∀ s (times : Word) (rx : Buf7), s.life = .opened → s.par.autoClose = false → times ≠ 0 →
    AnsweredBy s (fun _ => rx) times.toNat →
    ∃ t u, exec (.readAvg times) s = .next t ∧ exec .read s = .next u ∧ t.rsp = u.rsp ∧
      Answers t ⟨.ok, valueOf s.par.signMode rx⟩) ∧
  (∀ s times t u, s.rspValid = false → exec (.tare times) s = .next t → exec (.readAvg times) s = .next u →
    (∀ q, Answers u ⟨.ok, q⟩ →
      (∃ v, exec .getOffset t = .next v ∧ Answers v ⟨.ok, q⟩) ∧
      (∃ v, exec (.setOffset q) u = .next v ∧ t.arch = v.arch ∧ t.bus = v.bus ∧ t.rsp = v.rsp)) ∧
    (u.rsp.err ≠ .ok → t.arch = u.arch ∧ t.bus = u.bus ∧ t.rsp = u.rsp) ∧
    (u.rspValid = false → t = u))

/-! ## Whole-machine rules -/

/-- R86: the codes; each command reports only the statuses the table lists for it, a read `E_IO_CLOSE` only with
`AUTO_CLOSE`; and every error carries data 0 (R10). -/
def Obligations.StatusesByCommand : Prop :=
  ([.ok, .ioOpen, .ioConfig, .ioTransfer, .ioClose, .notOpen, .divZero, .illegalCmd, .illegalState,
    .malformed].map Status.code = [0, 1, 2, 3, 4, 5, 6, 7, 8, 9]) ∧
  (∀ e : Status, e.isIoError = true ↔ 1 ≤ e.code.toNat ∧ e.code.toNat ≤ 4) ∧
  (∀ i s t, s.rspValid = false → exec i s = .next t → t.rspValid = true →
    t.rsp.err ∈ mayReport i ∧ (t.rsp.err ≠ .ok → t.rsp.data = 0) ∧
    (t.rsp.err = .ioClose → i ≠ .close → s.par.autoClose = true))

/-- R80: the offset enters a result only through READ_NET and GET_OFFSET: any other command answers alike, issues alike
and, where it writes the offset, writes alike, whatever the offset was. -/
def Obligations.OffsetNotApplied : Prop :=
  ∀ i s t u (o : Word), i ≠ .readNet → i ≠ .getOffset → exec i s = .next t →
    exec i { s with offset := o } = .next u →
    u.rsp = t.rsp ∧ u.rspValid = t.rspValid ∧ u.bus = t.bus ∧ { u.arch with offset := t.offset } = t.arch ∧
    (t.offset ≠ s.offset → u.offset = t.offset)

/-- R20: no command reads what an earlier command left in the transient registers: its responses, registers and
transactions are the same whatever they held. -/
def Obligations.TransientsNotRead : Prop :=
  ∀ i s t u d, exec i s = .next t → exec i { s with dp := d } = .next u →
    u.arch = t.arch ∧ u.bus = t.bus ∧ u.rsp = t.rsp ∧ u.rspValid = t.rspValid

/-- R15, R16: in `NONE`, what `GAIN_SEL` and `OFFSET` hold cannot be observed: no response or transaction depends on
it, and an OPEN that succeeds writes both. -/
def Obligations.UnwrittenRegistersUnobservable : Prop :=
  ∀ i s t u g (o : Word), s.life = .none → exec i s = .next t →
    exec i { s with gainSel := g, offset := o } = .next u →
    u.rsp = t.rsp ∧ u.rspValid = t.rspValid ∧ u.bus = t.bus ∧ u.life = t.life ∧
    (t.life ≠ .none → u.arch = t.arch)

/-! ## The invariant -/

/-- The state after reset meets the invariant. -/
def Obligations.ResetMeetsInvariant : Prop := State.reset.Inv

/-- Every step from a state that meets the invariant gives one that meets it: the bus protocol of R53, R54 and R85 is
obeyed, `LIFE` tells whether the handle is held, the waveform table stays legal, and errors carry data 0. -/
def Obligations.StepKeepsInvariant : Prop :=
  ∀ s t, s.Inv → step s = .next t → t.Inv
end

