-- ==== Sys2Proof/Laws/State.lean ====
section
/-! SUPPORT. For each operation of Machine/Ops.lean, what it leaves in each field of the state: one lemma a field, so
that no proof unfolds a record update. -/

namespace Sys2Proof.Machine

@[simp] theorem setLife_life (l : Life) (s : State) : (setLife l s).life = l := rfl
@[simp] theorem setLife_gainSel (l : Life) (s : State) : (setLife l s).gainSel = s.gainSel := rfl
@[simp] theorem setLife_offset (l : Life) (s : State) : (setLife l s).offset = s.offset := rfl
@[simp] theorem setLife_busy (l : Life) (s : State) : (setLife l s).busy = s.busy := rfl
@[simp] theorem setLife_dp (l : Life) (s : State) : (setLife l s).dp = s.dp := rfl
@[simp] theorem setLife_rsp (l : Life) (s : State) : (setLife l s).rsp = s.rsp := rfl
@[simp] theorem setLife_rspValid (l : Life) (s : State) : (setLife l s).rspValid = s.rspValid := rfl
@[simp] theorem setLife_par (l : Life) (s : State) : (setLife l s).par = s.par := rfl
@[simp] theorem setLife_bus (l : Life) (s : State) : (setLife l s).bus = s.bus := rfl
@[simp] theorem setLife_cmds (l : Life) (s : State) : (setLife l s).cmds = s.cmds := rfl
@[simp] theorem setLife_rspReady (l : Life) (s : State) : (setLife l s).rspReady = s.rspReady := rfl
@[simp] theorem setLife_responses (l : Life) (s : State) : (setLife l s).responses = s.responses := rfl

@[simp] theorem setGainSel_life (g : Gain) (s : State) : (setGainSel g s).life = s.life := rfl
@[simp] theorem setGainSel_gainSel (g : Gain) (s : State) : (setGainSel g s).gainSel = g := rfl
@[simp] theorem setGainSel_offset (g : Gain) (s : State) : (setGainSel g s).offset = s.offset := rfl
@[simp] theorem setGainSel_busy (g : Gain) (s : State) : (setGainSel g s).busy = s.busy := rfl
@[simp] theorem setGainSel_dp (g : Gain) (s : State) : (setGainSel g s).dp = s.dp := rfl
@[simp] theorem setGainSel_rsp (g : Gain) (s : State) : (setGainSel g s).rsp = s.rsp := rfl
@[simp] theorem setGainSel_rspValid (g : Gain) (s : State) : (setGainSel g s).rspValid = s.rspValid := rfl
@[simp] theorem setGainSel_par (g : Gain) (s : State) : (setGainSel g s).par = s.par := rfl
@[simp] theorem setGainSel_bus (g : Gain) (s : State) : (setGainSel g s).bus = s.bus := rfl
@[simp] theorem setGainSel_cmds (g : Gain) (s : State) : (setGainSel g s).cmds = s.cmds := rfl
@[simp] theorem setGainSel_rspReady (g : Gain) (s : State) : (setGainSel g s).rspReady = s.rspReady := rfl
@[simp] theorem setGainSel_responses (g : Gain) (s : State) : (setGainSel g s).responses = s.responses := rfl

@[simp] theorem setOffsetReg_life (v : Word) (s : State) : (setOffsetReg v s).life = s.life := rfl
@[simp] theorem setOffsetReg_gainSel (v : Word) (s : State) : (setOffsetReg v s).gainSel = s.gainSel := rfl
@[simp] theorem setOffsetReg_offset (v : Word) (s : State) : (setOffsetReg v s).offset = v := rfl
@[simp] theorem setOffsetReg_busy (v : Word) (s : State) : (setOffsetReg v s).busy = s.busy := rfl
@[simp] theorem setOffsetReg_dp (v : Word) (s : State) : (setOffsetReg v s).dp = s.dp := rfl
@[simp] theorem setOffsetReg_rsp (v : Word) (s : State) : (setOffsetReg v s).rsp = s.rsp := rfl
@[simp] theorem setOffsetReg_rspValid (v : Word) (s : State) : (setOffsetReg v s).rspValid = s.rspValid := rfl
@[simp] theorem setOffsetReg_par (v : Word) (s : State) : (setOffsetReg v s).par = s.par := rfl
@[simp] theorem setOffsetReg_bus (v : Word) (s : State) : (setOffsetReg v s).bus = s.bus := rfl
@[simp] theorem setOffsetReg_cmds (v : Word) (s : State) : (setOffsetReg v s).cmds = s.cmds := rfl
@[simp] theorem setOffsetReg_rspReady (v : Word) (s : State) : (setOffsetReg v s).rspReady = s.rspReady := rfl
@[simp] theorem setOffsetReg_responses (v : Word) (s : State) : (setOffsetReg v s).responses = s.responses := rfl

@[simp] theorem loadWaveform_life (s : State) : (loadWaveform s).life = s.life := rfl
@[simp] theorem loadWaveform_gainSel (s : State) : (loadWaveform s).gainSel = s.gainSel := rfl
@[simp] theorem loadWaveform_offset (s : State) : (loadWaveform s).offset = s.offset := rfl
@[simp] theorem loadWaveform_busy (s : State) : (loadWaveform s).busy = s.busy := rfl
@[simp] theorem loadWaveform_rsp (s : State) : (loadWaveform s).rsp = s.rsp := rfl
@[simp] theorem loadWaveform_rspValid (s : State) : (loadWaveform s).rspValid = s.rspValid := rfl
@[simp] theorem loadWaveform_par (s : State) : (loadWaveform s).par = s.par := rfl
@[simp] theorem loadWaveform_bus (s : State) : (loadWaveform s).bus = s.bus := rfl
@[simp] theorem loadWaveform_cmds (s : State) : (loadWaveform s).cmds = s.cmds := rfl
@[simp] theorem loadWaveform_rspReady (s : State) : (loadWaveform s).rspReady = s.rspReady := rfl
@[simp] theorem loadWaveform_responses (s : State) : (loadWaveform s).responses = s.responses := rfl
@[simp] theorem loadWaveform_dp_txBuf (s : State) : (loadWaveform s).dp.txBuf = s.par.wave.sel s.gainSel := rfl
@[simp] theorem loadWaveform_dp_rxBuf (s : State) : (loadWaveform s).dp.rxBuf = s.dp.rxBuf := rfl
@[simp] theorem loadWaveform_dp_raw (s : State) : (loadWaveform s).dp.raw = s.dp.raw := rfl
@[simp] theorem loadWaveform_dp_val (s : State) : (loadWaveform s).dp.val = s.dp.val := rfl
@[simp] theorem loadWaveform_dp_acc (s : State) : (loadWaveform s).dp.acc = s.dp.acc := rfl
@[simp] theorem loadWaveform_dp_cnt (s : State) : (loadWaveform s).dp.cnt = s.dp.cnt := rfl

@[simp] theorem loadResponse_life (rx : Buf7) (s : State) : (loadResponse rx s).life = s.life := rfl
@[simp] theorem loadResponse_gainSel (rx : Buf7) (s : State) : (loadResponse rx s).gainSel = s.gainSel := rfl
@[simp] theorem loadResponse_offset (rx : Buf7) (s : State) : (loadResponse rx s).offset = s.offset := rfl
@[simp] theorem loadResponse_busy (rx : Buf7) (s : State) : (loadResponse rx s).busy = s.busy := rfl
@[simp] theorem loadResponse_rsp (rx : Buf7) (s : State) : (loadResponse rx s).rsp = s.rsp := rfl
@[simp] theorem loadResponse_rspValid (rx : Buf7) (s : State) : (loadResponse rx s).rspValid = s.rspValid := rfl
@[simp] theorem loadResponse_par (rx : Buf7) (s : State) : (loadResponse rx s).par = s.par := rfl
@[simp] theorem loadResponse_bus (rx : Buf7) (s : State) : (loadResponse rx s).bus = s.bus := rfl
@[simp] theorem loadResponse_cmds (rx : Buf7) (s : State) : (loadResponse rx s).cmds = s.cmds := rfl
@[simp] theorem loadResponse_rspReady (rx : Buf7) (s : State) : (loadResponse rx s).rspReady = s.rspReady := rfl
@[simp] theorem loadResponse_responses (rx : Buf7) (s : State) : (loadResponse rx s).responses = s.responses := rfl
@[simp] theorem loadResponse_dp_txBuf (rx : Buf7) (s : State) : (loadResponse rx s).dp.txBuf = s.dp.txBuf := rfl
@[simp] theorem loadResponse_dp_rxBuf (rx : Buf7) (s : State) : (loadResponse rx s).dp.rxBuf = rx := rfl
@[simp] theorem loadResponse_dp_raw (rx : Buf7) (s : State) : (loadResponse rx s).dp.raw = decode24 rx := rfl
@[simp] theorem loadResponse_dp_val (rx : Buf7) (s : State) : (loadResponse rx s).dp.val = valueOf s.par.signMode rx := rfl
@[simp] theorem loadResponse_dp_acc (rx : Buf7) (s : State) : (loadResponse rx s).dp.acc = s.dp.acc := rfl
@[simp] theorem loadResponse_dp_cnt (rx : Buf7) (s : State) : (loadResponse rx s).dp.cnt = s.dp.cnt := rfl

@[simp] theorem clearAccumulator_life (s : State) : (clearAccumulator s).life = s.life := rfl
@[simp] theorem clearAccumulator_gainSel (s : State) : (clearAccumulator s).gainSel = s.gainSel := rfl
@[simp] theorem clearAccumulator_offset (s : State) : (clearAccumulator s).offset = s.offset := rfl
@[simp] theorem clearAccumulator_busy (s : State) : (clearAccumulator s).busy = s.busy := rfl
@[simp] theorem clearAccumulator_rsp (s : State) : (clearAccumulator s).rsp = s.rsp := rfl
@[simp] theorem clearAccumulator_rspValid (s : State) : (clearAccumulator s).rspValid = s.rspValid := rfl
@[simp] theorem clearAccumulator_par (s : State) : (clearAccumulator s).par = s.par := rfl
@[simp] theorem clearAccumulator_bus (s : State) : (clearAccumulator s).bus = s.bus := rfl
@[simp] theorem clearAccumulator_cmds (s : State) : (clearAccumulator s).cmds = s.cmds := rfl
@[simp] theorem clearAccumulator_rspReady (s : State) : (clearAccumulator s).rspReady = s.rspReady := rfl
@[simp] theorem clearAccumulator_responses (s : State) : (clearAccumulator s).responses = s.responses := rfl
@[simp] theorem clearAccumulator_dp_txBuf (s : State) : (clearAccumulator s).dp.txBuf = s.dp.txBuf := rfl
@[simp] theorem clearAccumulator_dp_rxBuf (s : State) : (clearAccumulator s).dp.rxBuf = s.dp.rxBuf := rfl
@[simp] theorem clearAccumulator_dp_raw (s : State) : (clearAccumulator s).dp.raw = s.dp.raw := rfl
@[simp] theorem clearAccumulator_dp_val (s : State) : (clearAccumulator s).dp.val = s.dp.val := rfl
@[simp] theorem clearAccumulator_dp_acc (s : State) : (clearAccumulator s).dp.acc = 0 := rfl
@[simp] theorem clearAccumulator_dp_cnt (s : State) : (clearAccumulator s).dp.cnt = 0 := rfl

@[simp] theorem accumulate_life (v : Word) (s : State) : (accumulate v s).life = s.life := rfl
@[simp] theorem accumulate_gainSel (v : Word) (s : State) : (accumulate v s).gainSel = s.gainSel := rfl
@[simp] theorem accumulate_offset (v : Word) (s : State) : (accumulate v s).offset = s.offset := rfl
@[simp] theorem accumulate_busy (v : Word) (s : State) : (accumulate v s).busy = s.busy := rfl
@[simp] theorem accumulate_rsp (v : Word) (s : State) : (accumulate v s).rsp = s.rsp := rfl
@[simp] theorem accumulate_rspValid (v : Word) (s : State) : (accumulate v s).rspValid = s.rspValid := rfl
@[simp] theorem accumulate_par (v : Word) (s : State) : (accumulate v s).par = s.par := rfl
@[simp] theorem accumulate_bus (v : Word) (s : State) : (accumulate v s).bus = s.bus := rfl
@[simp] theorem accumulate_cmds (v : Word) (s : State) : (accumulate v s).cmds = s.cmds := rfl
@[simp] theorem accumulate_rspReady (v : Word) (s : State) : (accumulate v s).rspReady = s.rspReady := rfl
@[simp] theorem accumulate_responses (v : Word) (s : State) : (accumulate v s).responses = s.responses := rfl
@[simp] theorem accumulate_dp_txBuf (v : Word) (s : State) : (accumulate v s).dp.txBuf = s.dp.txBuf := rfl
@[simp] theorem accumulate_dp_rxBuf (v : Word) (s : State) : (accumulate v s).dp.rxBuf = s.dp.rxBuf := rfl
@[simp] theorem accumulate_dp_raw (v : Word) (s : State) : (accumulate v s).dp.raw = s.dp.raw := rfl
@[simp] theorem accumulate_dp_val (v : Word) (s : State) : (accumulate v s).dp.val = s.dp.val := rfl
@[simp] theorem accumulate_dp_acc (v : Word) (s : State) : (accumulate v s).dp.acc = s.dp.acc + sext64 v := rfl
@[simp] theorem accumulate_dp_cnt (v : Word) (s : State) : (accumulate v s).dp.cnt = s.dp.cnt + 1 := rfl

@[simp] theorem busOpen_life (s : State) : (busOpen s).life = s.life := rfl
@[simp] theorem busOpen_gainSel (s : State) : (busOpen s).gainSel = s.gainSel := rfl
@[simp] theorem busOpen_offset (s : State) : (busOpen s).offset = s.offset := rfl
@[simp] theorem busOpen_busy (s : State) : (busOpen s).busy = s.busy := rfl
@[simp] theorem busOpen_dp (s : State) : (busOpen s).dp = s.dp := rfl
@[simp] theorem busOpen_rsp (s : State) : (busOpen s).rsp = s.rsp := rfl
@[simp] theorem busOpen_rspValid (s : State) : (busOpen s).rspValid = s.rspValid := rfl
@[simp] theorem busOpen_par (s : State) : (busOpen s).par = s.par := rfl
@[simp] theorem busOpen_bus (s : State) : (busOpen s).bus = s.bus.takeAck (.busOpen s.par.busName) := rfl
@[simp] theorem busOpen_cmds (s : State) : (busOpen s).cmds = s.cmds := rfl
@[simp] theorem busOpen_rspReady (s : State) : (busOpen s).rspReady = s.rspReady := rfl
@[simp] theorem busOpen_responses (s : State) : (busOpen s).responses = s.responses := rfl

@[simp] theorem busConfigure_life (s : State) : (busConfigure s).life = s.life := rfl
@[simp] theorem busConfigure_gainSel (s : State) : (busConfigure s).gainSel = s.gainSel := rfl
@[simp] theorem busConfigure_offset (s : State) : (busConfigure s).offset = s.offset := rfl
@[simp] theorem busConfigure_busy (s : State) : (busConfigure s).busy = s.busy := rfl
@[simp] theorem busConfigure_dp (s : State) : (busConfigure s).dp = s.dp := rfl
@[simp] theorem busConfigure_rsp (s : State) : (busConfigure s).rsp = s.rsp := rfl
@[simp] theorem busConfigure_rspValid (s : State) : (busConfigure s).rspValid = s.rspValid := rfl
@[simp] theorem busConfigure_par (s : State) : (busConfigure s).par = s.par := rfl
@[simp] theorem busConfigure_bus (s : State) : (busConfigure s).bus = s.bus.takeAck (.busConfigure Config.cfgFreq Config.cfgMode Config.cfgBpw) := rfl
@[simp] theorem busConfigure_cmds (s : State) : (busConfigure s).cmds = s.cmds := rfl
@[simp] theorem busConfigure_rspReady (s : State) : (busConfigure s).rspReady = s.rspReady := rfl
@[simp] theorem busConfigure_responses (s : State) : (busConfigure s).responses = s.responses := rfl

@[simp] theorem busTransfer_life (s : State) : (busTransfer s).life = s.life := rfl
@[simp] theorem busTransfer_gainSel (s : State) : (busTransfer s).gainSel = s.gainSel := rfl
@[simp] theorem busTransfer_offset (s : State) : (busTransfer s).offset = s.offset := rfl
@[simp] theorem busTransfer_busy (s : State) : (busTransfer s).busy = s.busy := rfl
@[simp] theorem busTransfer_dp (s : State) : (busTransfer s).dp = s.dp := rfl
@[simp] theorem busTransfer_rsp (s : State) : (busTransfer s).rsp = s.rsp := rfl
@[simp] theorem busTransfer_rspValid (s : State) : (busTransfer s).rspValid = s.rspValid := rfl
@[simp] theorem busTransfer_par (s : State) : (busTransfer s).par = s.par := rfl
@[simp] theorem busTransfer_bus (s : State) : (busTransfer s).bus = s.bus.takeXfer s.dp.txBuf := rfl
@[simp] theorem busTransfer_cmds (s : State) : (busTransfer s).cmds = s.cmds := rfl
@[simp] theorem busTransfer_rspReady (s : State) : (busTransfer s).rspReady = s.rspReady := rfl
@[simp] theorem busTransfer_responses (s : State) : (busTransfer s).responses = s.responses := rfl

@[simp] theorem busClose_life (s : State) : (busClose s).life = s.life := rfl
@[simp] theorem busClose_gainSel (s : State) : (busClose s).gainSel = s.gainSel := rfl
@[simp] theorem busClose_offset (s : State) : (busClose s).offset = s.offset := rfl
@[simp] theorem busClose_busy (s : State) : (busClose s).busy = s.busy := rfl
@[simp] theorem busClose_dp (s : State) : (busClose s).dp = s.dp := rfl
@[simp] theorem busClose_rsp (s : State) : (busClose s).rsp = s.rsp := rfl
@[simp] theorem busClose_rspValid (s : State) : (busClose s).rspValid = s.rspValid := rfl
@[simp] theorem busClose_par (s : State) : (busClose s).par = s.par := rfl
@[simp] theorem busClose_bus (s : State) : (busClose s).bus = s.bus.takeAck .busClose := rfl
@[simp] theorem busClose_cmds (s : State) : (busClose s).cmds = s.cmds := rfl
@[simp] theorem busClose_rspReady (s : State) : (busClose s).rspReady = s.rspReady := rfl
@[simp] theorem busClose_responses (s : State) : (busClose s).responses = s.responses := rfl

@[simp] theorem endCommand_life (r : Response) (s : State) : (endCommand r s).life = s.life := rfl
@[simp] theorem endCommand_gainSel (r : Response) (s : State) : (endCommand r s).gainSel = s.gainSel := rfl
@[simp] theorem endCommand_offset (r : Response) (s : State) : (endCommand r s).offset = s.offset := rfl
@[simp] theorem endCommand_busy (r : Response) (s : State) : (endCommand r s).busy = s.busy := rfl
@[simp] theorem endCommand_dp (r : Response) (s : State) : (endCommand r s).dp = Datapath.cleared := rfl
@[simp] theorem endCommand_rsp (r : Response) (s : State) : (endCommand r s).rsp = r := rfl
@[simp] theorem endCommand_rspValid (r : Response) (s : State) : (endCommand r s).rspValid = true := rfl
@[simp] theorem endCommand_par (r : Response) (s : State) : (endCommand r s).par = s.par := rfl
@[simp] theorem endCommand_bus (r : Response) (s : State) : (endCommand r s).bus = s.bus := rfl
@[simp] theorem endCommand_cmds (r : Response) (s : State) : (endCommand r s).cmds = s.cmds := rfl
@[simp] theorem endCommand_rspReady (r : Response) (s : State) : (endCommand r s).rspReady = s.rspReady := rfl
@[simp] theorem endCommand_responses (r : Response) (s : State) : (endCommand r s).responses = s.responses := rfl

@[simp] theorem respond_life (d : Word) (s : State) : (respond d s).life = s.life := rfl
@[simp] theorem respond_gainSel (d : Word) (s : State) : (respond d s).gainSel = s.gainSel := rfl
@[simp] theorem respond_offset (d : Word) (s : State) : (respond d s).offset = s.offset := rfl
@[simp] theorem respond_busy (d : Word) (s : State) : (respond d s).busy = s.busy := rfl
@[simp] theorem respond_dp (d : Word) (s : State) : (respond d s).dp = Datapath.cleared := rfl
@[simp] theorem respond_rsp (d : Word) (s : State) : (respond d s).rsp = ⟨.ok, d⟩ := rfl
@[simp] theorem respond_rspValid (d : Word) (s : State) : (respond d s).rspValid = true := rfl
@[simp] theorem respond_par (d : Word) (s : State) : (respond d s).par = s.par := rfl
@[simp] theorem respond_bus (d : Word) (s : State) : (respond d s).bus = s.bus := rfl
@[simp] theorem respond_cmds (d : Word) (s : State) : (respond d s).cmds = s.cmds := rfl
@[simp] theorem respond_rspReady (d : Word) (s : State) : (respond d s).rspReady = s.rspReady := rfl
@[simp] theorem respond_responses (d : Word) (s : State) : (respond d s).responses = s.responses := rfl

@[simp] theorem raise_life (e : Status) (s : State) : (raise e s).life = s.life := rfl
@[simp] theorem raise_gainSel (e : Status) (s : State) : (raise e s).gainSel = s.gainSel := rfl
@[simp] theorem raise_offset (e : Status) (s : State) : (raise e s).offset = s.offset := rfl
@[simp] theorem raise_busy (e : Status) (s : State) : (raise e s).busy = s.busy := rfl
@[simp] theorem raise_dp (e : Status) (s : State) : (raise e s).dp = Datapath.cleared := rfl
@[simp] theorem raise_rsp (e : Status) (s : State) : (raise e s).rsp = ⟨e, 0⟩ := rfl
@[simp] theorem raise_rspValid (e : Status) (s : State) : (raise e s).rspValid = true := rfl
@[simp] theorem raise_par (e : Status) (s : State) : (raise e s).par = s.par := rfl
@[simp] theorem raise_bus (e : Status) (s : State) : (raise e s).bus = s.bus := rfl
@[simp] theorem raise_cmds (e : Status) (s : State) : (raise e s).cmds = s.cmds := rfl
@[simp] theorem raise_rspReady (e : Status) (s : State) : (raise e s).rspReady = s.rspReady := rfl
@[simp] theorem raise_responses (e : Status) (s : State) : (raise e s).responses = s.responses := rfl

@[simp] theorem accept_life (s : State) : (accept s).life = s.life := rfl
@[simp] theorem accept_gainSel (s : State) : (accept s).gainSel = s.gainSel := rfl
@[simp] theorem accept_offset (s : State) : (accept s).offset = s.offset := rfl
@[simp] theorem accept_busy (s : State) : (accept s).busy = true := rfl
@[simp] theorem accept_dp (s : State) : (accept s).dp = s.dp := rfl
@[simp] theorem accept_rsp (s : State) : (accept s).rsp = s.rsp := rfl
@[simp] theorem accept_rspValid (s : State) : (accept s).rspValid = false := rfl
@[simp] theorem accept_par (s : State) : (accept s).par = s.par := rfl
@[simp] theorem accept_bus (s : State) : (accept s).bus = s.bus := rfl
@[simp] theorem accept_cmds (s : State) : (accept s).cmds = s.cmds.tail := rfl
@[simp] theorem accept_rspReady (s : State) : (accept s).rspReady = s.rspReady := rfl
@[simp] theorem accept_responses (s : State) : (accept s).responses = s.responses := rfl

@[simp] theorem takeResponse_life (s : State) : (takeResponse s).life = s.life := rfl
@[simp] theorem takeResponse_gainSel (s : State) : (takeResponse s).gainSel = s.gainSel := rfl
@[simp] theorem takeResponse_offset (s : State) : (takeResponse s).offset = s.offset := rfl
@[simp] theorem takeResponse_busy (s : State) : (takeResponse s).busy = false := rfl
@[simp] theorem takeResponse_dp (s : State) : (takeResponse s).dp = s.dp := rfl
@[simp] theorem takeResponse_rsp (s : State) : (takeResponse s).rsp = s.rsp := rfl
@[simp] theorem takeResponse_rspValid (s : State) : (takeResponse s).rspValid = false := rfl
@[simp] theorem takeResponse_par (s : State) : (takeResponse s).par = s.par := rfl
@[simp] theorem takeResponse_bus (s : State) : (takeResponse s).bus = s.bus := rfl
@[simp] theorem takeResponse_cmds (s : State) : (takeResponse s).cmds = s.cmds := rfl
@[simp] theorem takeResponse_rspReady (s : State) : (takeResponse s).rspReady = s.rspReady := rfl
@[simp] theorem takeResponse_responses (s : State) : (takeResponse s).responses = s.responses ++ [s.rsp] := rfl

end Sys2Proof.Machine
end

