-- ==== Sys2Proof/Laws/Bus.lean ====
section
/-! SUPPORT. The transport port: taking an answer shifts the answers still to come by one and records the transaction;
how `Issued` composes; the bus protocol over appended transactions. -/

namespace Sys2Proof.Machine

@[simp] theorem takeAck_trace (b : Bus) (ev : Ack → BusEvent) :
    (b.takeAck ev).trace = b.trace ++ [ev (b.ackAt 0)] := rfl

@[simp] theorem takeXfer_trace (b : Bus) (tx : Buf7) :
    (b.takeXfer tx).trace = b.trace ++ [.busTransfer tx (b.xferAt 0)] := rfl

@[simp] theorem takeAck_ackAt (b : Bus) (ev : Ack → BusEvent) (k : Nat) :
    (b.takeAck ev).ackAt k = b.ackAt (k + 1) := by
  cases b with
  | mk acks draws xfers xd tr =>
    cases acks with
    | nil => simp [Bus.takeAck, Bus.ackAt, Nat.add_comm, Nat.add_left_comm]
    | cons a rest => simp [Bus.takeAck, Bus.ackAt]

@[simp] theorem takeAck_xferAt (b : Bus) (ev : Ack → BusEvent) (k : Nat) :
    (b.takeAck ev).xferAt k = b.xferAt k := rfl

@[simp] theorem takeXfer_xferAt (b : Bus) (tx : Buf7) (k : Nat) :
    (b.takeXfer tx).xferAt k = b.xferAt (k + 1) := by
  cases b with
  | mk acks draws xfers xd tr =>
    cases xfers with
    | nil => simp [Bus.takeXfer, Bus.xferAt, Nat.add_comm, Nat.add_left_comm]
    | cons a rest => simp [Bus.takeXfer, Bus.xferAt]

@[simp] theorem takeXfer_ackAt (b : Bus) (tx : Buf7) (k : Nat) :
    (b.takeXfer tx).ackAt k = b.ackAt k := rfl

/-- A scripted acknowledgement is the one the script lists. -/
theorem ackAt_script {b : Bus} {k : Nat} {a : Ack} (h : b.acks[k]? = some a) : b.ackAt k = a := by
  simp [Bus.ackAt, h]

/-- A scripted transfer answer is the one the script lists. -/
theorem xferAt_script {b : Bus} {k : Nat} {a : XferAnswer} (h : b.xfers[k]? = some a) : b.xferAt k = a := by
  simp [Bus.xferAt, h]

/-! ## `Issued` -/

/-- Nothing issued where the port is as it was. -/
theorem issued_nil {s t : State} (h : t.bus = s.bus) : Issued s t [] := by simp [Issued, h]

/-- Transactions issued one after another. -/
theorem Issued.trans {s t u : State} {es fs : List BusEvent} (h : Issued s t es) (h' : Issued t u fs) :
    Issued s u (es ++ fs) := by
  obtain ⟨ht, ha, hx⟩ := h
  obtain ⟨ht', ha', hx'⟩ := h'
  refine ⟨by simp [ht', ht], fun k => ?_, fun k => ?_⟩
  · rw [ha', ha, List.countP_append]; congr 1; omega
  · rw [hx', hx, List.countP_append]; congr 1; omega

/-- Only the port matters for what was issued. -/
theorem Issued.of_bus {s t t' : State} {es : List BusEvent} (h : Issued s t es) (hb : t'.bus = t.bus) :
    Issued s t' es := by
  unfold Issued at *; rwa [hb]

theorem Issued.from_bus {s s' t : State} {es : List BusEvent} (h : Issued s t es) (hb : s'.bus = s.bus) :
    Issued s' t es := by
  unfold Issued at *; rwa [hb]

theorem issued_busOpen (s : State) : Issued s (busOpen s) [.busOpen s.par.busName (nextAck s)] := by
  simp [Issued, nextAck, BusEvent.isTransfer]

theorem issued_busConfigure (s : State) :
    Issued s (busConfigure s) [.busConfigure Config.cfgFreq Config.cfgMode Config.cfgBpw (nextAck s)] := by
  simp [Issued, nextAck, BusEvent.isTransfer]

theorem issued_busTransfer (s : State) : Issued s (busTransfer s) [.busTransfer s.dp.txBuf (nextXfer s)] := by
  simp [Issued, nextXfer, BusEvent.isTransfer]

theorem issued_busClose (s : State) : Issued s (busClose s) [.busClose (nextAck s)] := by
  simp [Issued, nextAck, BusEvent.isTransfer]

/-! ## The bus protocol -/

theorem busPhaseFrom_append (p : BusPhase) (es fs : List BusEvent) :
    busPhaseFrom p (es ++ fs) = (busPhaseFrom p es).bind fun q => busPhaseFrom q fs := by
  induction es generalizing p with
  | nil => rfl
  | cons e es ih =>
    cases h : p.after e with
    | none => simp [busPhaseFrom, h]
    | some q => simp [busPhaseFrom, h, ih]

/-- Where the handle is after what a command issued, from where it was before. -/
theorem phase_of_issued {s t : State} {es : List BusEvent} (h : Issued s t es) :
    t.phase = s.phase.bind fun q => busPhaseFrom q es := by
  simp [State.phase, h.1, busPhaseFrom_append]

end Sys2Proof.Machine
end

