-- ==== Sys2Proof/Laws/Ops.lean ====
section
/-! SUPPORT. How commands end: `finish` always answers a next state, `Ran.bind` passes errors and hangs on, and the
instance check. -/

namespace Sys2Proof.Machine

@[simp] theorem bind_done {α β : Type} (a : α) (s : State) (f : α → State → Ran β) : (Ran.done a s).bind f = f a s := rfl
@[simp] theorem bind_raised {α β : Type} (e : Status) (s : State) (f : α → State → Ran β) :
    (Ran.raised e s : Ran α).bind f = .raised e s := rfl
@[simp] theorem bind_hung {α β : Type} (s : State) (f : α → State → Ran β) :
    (Ran.hung s : Ran α).bind f = .hung s := rfl

@[simp] theorem final_done (d : Word) (s : State) : (Ran.done d s).final = respond d s := rfl
@[simp] theorem final_raised (e : Status) (s : State) : (Ran.raised e s : Ran Word).final = raise e s := rfl
@[simp] theorem final_hung (s : State) : (Ran.hung s : Ran Word).final = s := rfl

@[simp] theorem finish_eq (r : Ran Word) : finish r = .next r.final := rfl

@[simp] theorem needsInstance_none {s : State} (h : s.life = .none) (f : State → Ran Word) :
    needsInstance s f = .raised .illegalState s := by simp [needsInstance, h]

@[simp] theorem needsInstance_opened {s : State} (h : s.life = .opened) (f : State → Ran Word) :
    needsInstance s f = f s := by simp [needsInstance, h]

@[simp] theorem needsInstance_closed {s : State} (h : s.life = .closed) (f : State → Ran Word) :
    needsInstance s f = f s := by simp [needsInstance, h]

/-- The instance check passes wherever an instance exists. -/
theorem needsInstance_some {s : State} (h : s.life ≠ .none) (f : State → Ran Word) : needsInstance s f = f s := by
  cases hl : s.life with
  | none => exact absurd hl h
  | opened => exact needsInstance_opened hl f
  | closed => exact needsInstance_closed hl f

@[simp] theorem state_done {α : Type} (a : α) (s : State) : (Ran.done a s).state = s := rfl
@[simp] theorem state_raised {α : Type} (e : Status) (s : State) : (Ran.raised e s : Ran α).state = s := rfl
@[simp] theorem state_hung {α : Type} (s : State) : (Ran.hung s : Ran α).state = s := rfl

/-- A property that a piece and all its continuations establish is one of the whole. -/
theorem state_bind {α β : Type} {P : State → Prop} (r : Ran α) (f : α → State → Ran β) (h : P r.state)
    (hf : ∀ a s, r = .done a s → P (f a s).state) : P (r.bind f).state := by
  cases r with
  | done a s => exact hf a s rfl
  | raised e s => exact h
  | hung s => exact h

/-- `exec` answers a next state for every command in every state: no fault, no refusal (R98). -/
theorem exec_eq_next (i : Instr) (s : State) : ∃ t, exec i s = .next t := by
  cases i <;> exact ⟨_, rfl⟩

end Sys2Proof.Machine
end

