-- ==== Sys2Proof/Laws/Unpack.lean ====
section
/-! SUPPORT. The decoder, nibble by nibble. -/

namespace Sys2Proof

/-- The encoded byte of a nibble decodes to it (R67 (2)). -/
@[simp] theorem nib_encNib (n : BitVec 4) : nib (encNib n) = n := by
  revert n; decide

/-- A nibble depends on bits 6, 4, 2 and 0 only (R61, R68). -/
theorem nib_mask (b : Byte) : nib b = nib (b &&& 0x55#8) := by
  revert b; decide

/-- Complementing a byte complements its nibble (R67 (3)). -/
theorem nib_not (b : Byte) : nib (~~~b) = ~~~ nib b := by
  revert b; decide

@[simp] theorem ofList_toList (rx : Buf7) : Buf7.ofList rx.toList = some rx := rfl

/-- A list carries a buffer exactly when it has 7 bytes (R34). -/
theorem ofList_eq_some {l : List Byte} {rx : Buf7} : Buf7.ofList l = some rx ↔ l = rx.toList := by
  constructor
  · intro h
    unfold Buf7.ofList at h
    split at h
    · cases h; rfl
    · cases h
  · rintro rfl; rfl

theorem ofList_eq_none {l : List Byte} : Buf7.ofList l = none ↔ l.length ≠ 7 := by
  constructor
  · intro h hl
    match l, hl with
    | [a, b, c, d, e, f, g], _ => cases h
  · intro h
    unfold Buf7.ofList
    split
    · exact absurd rfl h
    · rfl

end Sys2Proof
end

