-- ==== Sys2Proof/Laws/Read.lean ====
section
/-! SUPPORT. Everything one read can do (`readCore_cases`), said once, and how the averaging loop runs over it. -/

namespace Sys2Proof.Machine

/-- The state after the transfer of a read (R65). -/
def sent (s : State) : State := busTransfer (loadWaveform s)

/-- The state after a read's response is decoded (R65). -/
def received (rx : Buf7) (s : State) : State := loadResponse rx (sent s)

/-- The state after a read's auto-close (R65). -/
def autoClosed (rx : Buf7) (s : State) : State := busClose (setLife .closed (received rx s))

@[simp] theorem sent_arch (s : State) : (sent s).arch = s.arch := rfl
@[simp] theorem received_arch (rx : Buf7) (s : State) : (received rx s).arch = s.arch := rfl
@[simp] theorem autoClosed_arch (rx : Buf7) (s : State) :
    (autoClosed rx s).arch = { s.arch with life := .closed } := rfl
@[simp] theorem sent_rsp (s : State) : (sent s).rsp = s.rsp := rfl
@[simp] theorem sent_rspValid (s : State) : (sent s).rspValid = s.rspValid := rfl
@[simp] theorem received_rsp (rx : Buf7) (s : State) : (received rx s).rsp = s.rsp := rfl
@[simp] theorem received_rspValid (rx : Buf7) (s : State) : (received rx s).rspValid = s.rspValid := rfl
@[simp] theorem autoClosed_rsp (rx : Buf7) (s : State) : (autoClosed rx s).rsp = s.rsp := rfl
@[simp] theorem autoClosed_rspValid (rx : Buf7) (s : State) : (autoClosed rx s).rspValid = s.rspValid := rfl
@[simp] theorem sent_par (s : State) : (sent s).par = s.par := rfl
@[simp] theorem sent_life (s : State) : (sent s).life = s.life := rfl
@[simp] theorem received_par (rx : Buf7) (s : State) : (received rx s).par = s.par := rfl
@[simp] theorem received_life (rx : Buf7) (s : State) : (received rx s).life = s.life := rfl
@[simp] theorem received_offset (rx : Buf7) (s : State) : (received rx s).offset = s.offset := rfl
@[simp] theorem received_gainSel (rx : Buf7) (s : State) : (received rx s).gainSel = s.gainSel := rfl
@[simp] theorem autoClosed_par (rx : Buf7) (s : State) : (autoClosed rx s).par = s.par := rfl
@[simp] theorem autoClosed_life (rx : Buf7) (s : State) : (autoClosed rx s).life = .closed := rfl
@[simp] theorem autoClosed_offset (rx : Buf7) (s : State) : (autoClosed rx s).offset = s.offset := rfl
@[simp] theorem received_acc (rx : Buf7) (s : State) : (received rx s).dp.acc = s.dp.acc := rfl
@[simp] theorem received_cnt (rx : Buf7) (s : State) : (received rx s).dp.cnt = s.dp.cnt := rfl
@[simp] theorem autoClosed_acc (rx : Buf7) (s : State) : (autoClosed rx s).dp.acc = s.dp.acc := rfl

/-- One transfer of the selected waveform was issued (R56, R65). -/
theorem issued_sent (s : State) : Issued s (sent s) [.busTransfer (s.par.wave.sel s.gainSel) (nextXfer s)] :=
  (issued_busTransfer (loadWaveform s)).from_bus rfl

theorem issued_received (rx : Buf7) (s : State) :
    Issued s (received rx s) [.busTransfer (s.par.wave.sel s.gainSel) (nextXfer s)] :=
  (issued_sent s).of_bus rfl

theorem issued_autoClosed (rx : Buf7) (s : State) :
    Issued s (autoClosed rx s) [.busTransfer (s.par.wave.sel s.gainSel) (nextXfer s), .busClose (nextAck s)] :=
  (issued_received rx s).trans ((issued_busClose (setLife .closed (received rx s))).from_bus rfl)

/-- Everything one read can do (R65). -/
theorem readCore_cases (s : State) :
    (s.life = .closed ∧ readCore s = .raised .notOpen s) ∨
    (s.life ≠ .closed ∧
      ((nextXfer s = .never ∧ readCore s = .hung (sent s)) ∨
       (nextXfer s = .err ∧ readCore s = .raised .ioTransfer (sent s)) ∨
       (∃ l, nextXfer s = .ok l ∧ l.length ≠ 7 ∧ readCore s = .raised .malformed (sent s)) ∨
       ∃ rx, nextXfer s = .ok rx.toList ∧
        ((s.par.autoClose = false ∧ readCore s = .done (valueOf s.par.signMode rx) (received rx s)) ∨
         (s.par.autoClose = true ∧
          ((nextAck s = .never ∧ readCore s = .hung (autoClosed rx s)) ∨
           (nextAck s = .err ∧ readCore s = .raised .ioClose (autoClosed rx s)) ∨
           (nextAck s = .ok ∧ readCore s = .done (valueOf s.par.signMode rx) (autoClosed rx s))))))) := by
  have hopen : s.life ≠ .closed → readCore s = transferAndDecode (loadWaveform s) := by
    intro h; cases hl : s.life with
    | closed => exact absurd hl h
    | none => simp [readCore, hl]
    | opened => simp [readCore, hl]
  by_cases hc : s.life = .closed
  · exact .inl ⟨hc, by simp [readCore, hc]⟩
  · refine .inr ⟨hc, ?_⟩
    rw [hopen hc]
    have hx : nextXfer (loadWaveform s) = nextXfer s := rfl
    cases h : nextXfer s with
    | never => exact .inl ⟨rfl, by simp only [transferAndDecode, hx, h]; rfl⟩
    | err => exact .inr (.inl ⟨rfl, by simp only [transferAndDecode, hx, h]; rfl⟩)
    | ok l =>
      have ht : transferAndDecode (loadWaveform s) = receive l (sent s) := by
        simp only [transferAndDecode, hx, h]; rfl
      rw [ht]
      refine .inr (.inr ?_)
      cases hl : Buf7.ofList l with
      | none => exact .inl ⟨l, rfl, ofList_eq_none.1 hl, by simp [receive, hl]⟩
      | some rx =>
        refine .inr ⟨rx, by rw [ofList_eq_some.1 hl], ?_⟩
        have hr : receive l (sent s) =
            match s.par.autoClose with
            | true => autoClose (valueOf s.par.signMode rx) (received rx s)
            | false => .done (valueOf s.par.signMode rx) (received rx s) := by
          simp only [receive, hl]; rfl
        rw [hr]
        cases ha : s.par.autoClose with
        | false => exact .inl ⟨rfl, rfl⟩
        | true =>
          refine .inr ⟨rfl, ?_⟩
          have hk : nextAck (setLife .closed (received rx s)) = nextAck s := rfl
          cases hak : nextAck s with
          | never => exact .inl ⟨rfl, by simp only [autoClose, hk, hak]; rfl⟩
          | err => exact .inr (.inl ⟨rfl, by simp only [autoClose, hk, hak]; rfl⟩)
          | ok => exact .inr (.inr ⟨rfl, by simp only [autoClose, hk, hak]; rfl⟩)

/-- A read whose transfer answers 7 bytes, without auto-close: the value, and the handle still open (R65). -/
theorem readCore_keep {s : State} {rx : Buf7} (hl : s.life = .opened) (ha : s.par.autoClose = false)
    (hx : nextXfer s = .ok rx.toList) : readCore s = .done (valueOf s.par.signMode rx) (received rx s) := by
  rcases readCore_cases s with ⟨h, -⟩ | ⟨-, ⟨h, -⟩ | ⟨h, -⟩ | ⟨l, h, h7, -⟩ | ⟨rx', h, ⟨-, e⟩ | ⟨h', -⟩⟩⟩
  · simp [hl] at h
  · simp [hx] at h
  · simp [hx] at h
  · rw [hx] at h; cases h; exact absurd rfl h7
  · rw [hx] at h
    have : rx = rx' := by
      have := XferAnswer.ok.inj h
      exact Option.some.inj (by rw [← ofList_toList rx, this, ofList_toList])
    subst this; exact e
  · simp [ha] at h'

/-- A read whose transfer answers 7 bytes, with auto-close and a close that succeeds (R65). -/
theorem readCore_close {s : State} {rx : Buf7} (hl : s.life = .opened) (ha : s.par.autoClose = true)
    (hx : nextXfer s = .ok rx.toList) (hk : nextAck s = .ok) :
    readCore s = .done (valueOf s.par.signMode rx) (autoClosed rx s) := by
  rcases readCore_cases s with ⟨h, -⟩ | ⟨-, ⟨h, -⟩ | ⟨h, -⟩ | ⟨l, h, h7, -⟩ |
    ⟨rx', h, ⟨h', -⟩ | ⟨-, ⟨h', -⟩ | ⟨h', -⟩ | ⟨-, e⟩⟩⟩⟩
  · simp [hl] at h
  · simp [hx] at h
  · simp [hx] at h
  · rw [hx] at h; cases h; exact absurd rfl h7
  · simp [ha] at h'
  · simp [hk] at h'
  · simp [hk] at h'
  · rw [hx] at h
    have : rx = rx' := by
      have := XferAnswer.ok.inj h
      exact Option.some.inj (by rw [← ofList_toList rx, this, ofList_toList])
    subst this; exact e

@[simp] theorem avgLoop_zero (s : State) : avgLoop 0 s = .done () s := rfl

theorem avgLoop_succ (k : Nat) (s : State) :
    avgLoop (k + 1) s = (readCore s).bind fun v s1 => avgLoop k (accumulate v s1) := rfl

/-- What every read and every accumulation keeps, the averaging loop keeps. -/
theorem avgLoop_keeps {P : State → Prop} (hread : ∀ s, P s → P (readCore s).state)
    (hacc : ∀ v s, P s → P (accumulate v s)) : ∀ k s, P s → P (avgLoop k s).state
  | 0, _, h => h
  | k + 1, s, h => by
    rw [avgLoop_succ]
    refine state_bind _ _ (hread s h) fun v s1 he => ?_
    refine avgLoop_keeps hread hacc k _ (hacc v s1 ?_)
    have := hread s h
    rwa [he] at this

end Sys2Proof.Machine
end

