-- ==== Sys2Proof/Laws/Average.lean ====
section
/-! SUPPORT. The averaging loop over answered transfers (R70): after k of them it has issued k transfers of the selected
waveform and holds their exact sum modulo 2^64. -/

namespace Sys2Proof.Machine

/-- The sum, one read further (R70): sign extension is the integer, taken modulo 2^64. -/
theorem add_sext64 (x : Int) (v : Word) :
    BitVec.ofInt 64 x + sext64 v = BitVec.ofInt 64 (x + v.toInt) := by
  rw [sext64, BitVec.signExtend, BitVec.ofInt_add]

/-- The transfers, one further. -/
theorem transfers_succ (w : Buf7) (rx : Nat → Buf7) (k : Nat) :
    transfers w rx (k + 1) = transfers w rx k ++ [.busTransfer w (.ok (rx k).toList)] := by
  simp only [transfers, List.range_succ, List.map_append, List.map_cons, List.map_nil]

/-- The loop after `k` transfers answered with 7 bytes, without auto-close. -/
theorem avgLoop_prefix {s : State} {rx : Nat → Buf7} (hl : s.life = .opened) (ha : s.par.autoClose = false) (k : Nat)
    (hx : ∀ j, j < k → s.bus.xferAt j = .ok (rx j).toList) (n : Nat) :
    ∃ u, avgLoop (k + n) s = avgLoop n u ∧ u.arch = s.arch ∧
      Issued s u (transfers (s.par.wave.sel s.gainSel) rx k) ∧ u.rsp = s.rsp ∧ u.rspValid = s.rspValid ∧
      u.dp.acc = s.dp.acc + BitVec.ofInt 64 (readSum s.par.signMode rx k) ∧
      u.dp.cnt = s.dp.cnt + BitVec.ofNat 32 k := by
  induction k generalizing n with
  | zero => exact ⟨s, by simp, rfl, issued_nil rfl, rfl, rfl, by simp [readSum], by simp⟩
  | succ k ih =>
    obtain ⟨u, hu, harch, hi, hr, hv, hacc, hcnt⟩ := ih (fun j hj => hx j (by omega)) (n + 1)
    have hpar : u.par = s.par := congrArg Arch.par harch
    have hgain : u.gainSel = s.gainSel := congrArg Arch.gainSel harch
    have hlife : u.life = s.life := congrArg Arch.life harch
    have hxu : nextXfer u = .ok (rx k).toList := by
      have h0 := hi.2.2 0
      have hc : (transfers (s.par.wave.sel s.gainSel) rx k).countP BusEvent.isTransfer = k := by
        simp [transfers, List.countP_map, Function.comp_def, BusEvent.isTransfer]
      rw [hc, Nat.zero_add] at h0
      exact h0.trans (hx k (by omega))
    have hread := readCore_keep (hlife.trans hl) (by rw [hpar, ha]) hxu
    rw [hpar] at hread
    refine ⟨accumulate (valueOf s.par.signMode (rx k)) (received (rx k) u), ?_, ?_, ?_, hr, hv, ?_, ?_⟩
    · rw [show k + 1 + n = k + (n + 1) by omega, hu, avgLoop_succ, hread, bind_done]
    · rw [← harch]; rfl
    · have h1 := (issued_received (rx k) u).of_bus (accumulate_bus (valueOf s.par.signMode (rx k)) _)
      rw [hxu, hpar, hgain] at h1
      have h2 := hi.trans h1
      rwa [← transfers_succ] at h2
    · rw [accumulate_dp_acc, received_acc, hacc, BitVec.add_assoc, add_sext64, readSum]
    · rw [accumulate_dp_cnt, received_cnt, hcnt, BitVec.add_assoc]
      rw [BitVec.ofNat_add]; simp

end Sys2Proof.Machine
end

