-- ==== Sys2Proof/Laws/Construct.lean ====
section
/-! SUPPORT. Everything OPEN's and CLOSE's bus sequences can do, each said once (R53, R84). -/

namespace Sys2Proof.Machine

/-- The state after OPEN's configure (R53). -/
def configured (s : State) : State := busConfigure (busOpen s)

/-- The state after OPEN's cleanup close (R53). -/
def cleanedUp (s : State) : State := busClose (configured s)

/-- The state after a successful OPEN (R107). -/
def constructed (g : Gain) (s : State) : State := setLife .opened (setOffsetReg 0 (setGainSel g (configured s)))

/-- The state after a release of the handle (R84). -/
def closedHandle (s : State) : State := busClose (setLife .closed s)

@[simp] theorem busOpen_arch (s : State) : (busOpen s).arch = s.arch := rfl
@[simp] theorem configured_arch (s : State) : (configured s).arch = s.arch := rfl
@[simp] theorem cleanedUp_arch (s : State) : (cleanedUp s).arch = s.arch := rfl
@[simp] theorem constructed_arch (g : Gain) (s : State) :
    (constructed g s).arch = { s.arch with life := .opened, gainSel := g, offset := 0 } := rfl
@[simp] theorem closedHandle_arch (s : State) : (closedHandle s).arch = { s.arch with life := .closed } := rfl

theorem issued_configured (s : State) :
    Issued s (configured s) [.busOpen s.par.busName (s.bus.ackAt 0), .busConfigure 115200 0 8 (s.bus.ackAt 1)] := by
  have h := (issued_busOpen s).trans (issued_busConfigure (busOpen s))
  rw [show nextAck (busOpen s) = s.bus.ackAt 1 by simp [nextAck]] at h
  exact h

theorem issued_constructed (g : Gain) (s : State) :
    Issued s (constructed g s)
      [.busOpen s.par.busName (s.bus.ackAt 0), .busConfigure 115200 0 8 (s.bus.ackAt 1)] :=
  (issued_configured s).of_bus rfl

theorem issued_cleanedUp (s : State) :
    Issued s (cleanedUp s)
      [.busOpen s.par.busName (s.bus.ackAt 0), .busConfigure 115200 0 8 (s.bus.ackAt 1),
        .busClose (s.bus.ackAt 2)] := by
  have h := (issued_configured s).trans (issued_busClose (configured s))
  rw [show nextAck (configured s) = s.bus.ackAt 2 by simp [nextAck, configured]] at h
  exact h

theorem issued_closedHandle (s : State) : Issued s (closedHandle s) [.busClose (s.bus.ackAt 0)] :=
  (issued_busClose (setLife .closed s)).from_bus rfl

/-- Everything OPEN's bus sequence can do (R53). -/
theorem openSequence_cases (g : Gain) (s : State) :
    (s.bus.ackAt 0 = .never ∧ openSequence g s = .hung (busOpen s)) ∨
    (s.bus.ackAt 0 = .err ∧ openSequence g s = .raised .ioOpen (busOpen s)) ∨
    (s.bus.ackAt 0 = .ok ∧
      ((s.bus.ackAt 1 = .never ∧ openSequence g s = .hung (configured s)) ∨
       (s.bus.ackAt 1 = .err ∧ s.bus.ackAt 2 = .never ∧ openSequence g s = .hung (cleanedUp s)) ∨
       (s.bus.ackAt 1 = .err ∧ s.bus.ackAt 2 ≠ .never ∧ openSequence g s = .raised .ioConfig (cleanedUp s)) ∨
       (s.bus.ackAt 1 = .ok ∧ openSequence g s = .done 0 (constructed g s)))) := by
  have e0 : nextAck s = s.bus.ackAt 0 := rfl
  have e1 : nextAck (busOpen s) = s.bus.ackAt 1 := by simp [nextAck]
  have e2 : nextAck (busConfigure (busOpen s)) = s.bus.ackAt 2 := by simp [nextAck]
  simp only [openSequence, e0, e1, e2]
  cases h0 : s.bus.ackAt 0 with
  | never => exact .inl ⟨rfl, rfl⟩
  | err => exact .inr (.inl ⟨rfl, rfl⟩)
  | ok =>
    refine .inr (.inr ⟨rfl, ?_⟩)
    cases h1 : s.bus.ackAt 1 with
    | never => exact .inl ⟨rfl, rfl⟩
    | ok => exact .inr (.inr (.inr ⟨rfl, rfl⟩))
    | err =>
      cases h2 : s.bus.ackAt 2 with
      | never => exact .inr (.inl ⟨rfl, rfl, rfl⟩)
      | err => exact .inr (.inr (.inl ⟨rfl, by simp, rfl⟩))
      | ok => exact .inr (.inr (.inl ⟨rfl, by simp, rfl⟩))

/-- Everything OPEN can do: refused by one of its two checks, or its bus sequence (R53). -/
theorem execOpen_cases (tag : BitVec 2) (s : State) :
    (Gain.ofTag tag = none ∧ exec (.openBus tag) s = .next (raise .illegalCmd s)) ∨
    (∃ g, Gain.ofTag tag = some g ∧
      ((s.life = .opened ∧ exec (.openBus tag) s = .next (raise .illegalState s)) ∨
       (s.life ≠ .opened ∧ exec (.openBus tag) s = .next (openSequence g s).final))) := by
  cases hg : Gain.ofTag tag with
  | none => exact .inl ⟨rfl, by simp [exec, execOpen, hg]⟩
  | some g =>
    refine .inr ⟨g, rfl, ?_⟩
    cases hl : s.life with
    | none => exact .inr ⟨by simp, by simp [exec, execOpen, hg, hl]⟩
    | opened => exact .inl ⟨rfl, by simp [exec, execOpen, hg, hl]⟩
    | closed => exact .inr ⟨by simp, by simp [exec, execOpen, hg, hl]⟩

/-- Everything CLOSE's release can do (R84). -/
theorem releaseHandle_cases (s : State) :
    (s.bus.ackAt 0 = .ok ∧ releaseHandle s = .done 0 (closedHandle s)) ∨
    (s.bus.ackAt 0 = .err ∧ releaseHandle s = .raised .ioClose (closedHandle s)) ∨
    (s.bus.ackAt 0 = .never ∧ releaseHandle s = .hung (closedHandle s)) := by
  have e : nextAck (setLife .closed s) = s.bus.ackAt 0 := rfl
  simp only [releaseHandle, e]
  cases h : s.bus.ackAt 0 with
  | ok => exact .inl ⟨rfl, rfl⟩
  | err => exact .inr (.inl ⟨rfl, rfl⟩)
  | never => exact .inr (.inr ⟨rfl, rfl⟩)

end Sys2Proof.Machine
end

