-- ==== Sys2Proof/Laws/Decode.lean ====
section
/-! SUPPORT. The two fields of a command word, and the opcode map over them. -/

namespace Sys2Proof

/-- The bits of a word written as its two fields. -/
theorem getLsbD_fields (op : BitVec 4) (arg : Word) (k : Nat) :
    (op ++ arg : CmdWord).getLsbD k = if k < 32 then arg.getLsbD k else op.getLsbD (k - 32) := by
  exact BitVec.getLsbD_append (x := op) (y := arg) (i := k)

@[simp] theorem opField_append (op : BitVec 4) (arg : Word) : opField (op ++ arg) = op := by
  apply BitVec.eq_of_getLsbD_eq
  intro k hk
  rw [opField, BitVec.getLsbD_extractLsb', getLsbD_fields]
  simp [hk]

@[simp] theorem argField_append (op : BitVec 4) (arg : Word) : argField (op ++ arg) = arg := by
  apply BitVec.eq_of_getLsbD_eq
  intro k hk
  rw [argField, BitVec.getLsbD_extractLsb', getLsbD_fields]
  simp [hk]

/-- Decoding a word written as its two fields. -/
@[simp] theorem decode_append (op : BitVec 4) (arg : Word) : decode (op ++ arg) = decodeFields op arg := by
  simp [decode]

/-- A word is its two fields. -/
theorem fields_append (w : CmdWord) : opField w ++ argField w = w := by
  apply BitVec.eq_of_getLsbD_eq
  intro k hk
  rw [getLsbD_fields]
  split
  · rename_i h
    simp [argField, h]
  · rename_i h
    have h1 : k - 32 < 4 := by omega
    have h2 : 32 + (k - 32) = k := by omega
    simp [opField, h1, h2]

theorem encode_opField (i : Instr) : opField (encode i) = i.opcode := opField_append _ _
theorem encode_argField (i : Instr) : argField (encode i) = i.arg := argField_append _ _

/-- The tag an argument carries is the one it was written with. -/
@[simp] theorem argTag_setWidth (tag : BitVec 2) : argTag (tag.setWidth 32) = tag := by
  revert tag; decide

@[simp] theorem argReserved_setWidth (tag : BitVec 2) : argReserved (tag.setWidth 32) = 0 := by
  revert tag; decide

/-- An argument with nothing above its tag is its tag. -/
theorem setWidth_argTag {arg : Word} (h : argReserved arg = 0) : (argTag arg).setWidth 32 = arg := by
  have hr := congrArg BitVec.toNat h
  simp [argReserved, argTag, BitVec.extractLsb'_toNat] at hr ⊢
  apply BitVec.eq_of_toNat_eq
  simp [BitVec.extractLsb'_toNat]
  omega

end Sys2Proof
end

