-- ==== Sys2Proof/Laws/PerInstr.lean ====
section
/-! SUPPORT. Statements made per instruction. `TableRow`: the word a well-formed instruction encodes to lies in its own
row of the opcode table. -/

namespace Sys2Proof.Laws.TableRow

/-- The encoded word has the row's match value under the row's mask (spec/opcode_table.json). -/
def Statement (i : Instr) : Prop := i.wf = true → encode i &&& i.tableRow.mask = i.tableRow.pattern

theorem openBus (tag : BitVec 2) : Statement (.openBus tag) := by
  revert tag; unfold Statement; decide

theorem setGain (tag : BitVec 2) : Statement (.setGain tag) := by
  revert tag; unfold Statement; decide

theorem read : Statement .read := by unfold Statement; decide

/-- Under the mask `0xF00000000` only the opcode is left. -/
theorem opcode_mask (op : BitVec 4) (arg : Word) : (op ++ arg : CmdWord) &&& 0xF00000000#36 = op ++ (0 : Word) := by
  apply BitVec.eq_of_getLsbD_eq
  intro k hk
  have hm : (0xF00000000#36 : CmdWord) = (0xF#4 ++ (0 : Word) : CmdWord) := by decide
  rw [BitVec.getLsbD_and, hm, getLsbD_fields, getLsbD_fields, getLsbD_fields]
  by_cases h : k < 32
  · simp [h]
  · have h4 : k - 32 < 4 := by omega
    have h15 : ∀ j, j < 4 → (0xF#4).getLsbD j = true := by decide
    simp only [h, if_false, h15 _ h4, Bool.and_true]

theorem readAvg (times : Word) : Statement (.readAvg times) := fun _ => by
  rw [encode]; simp only [Instr.tableRow, Instr.opcode, Instr.arg, opcode_mask]; decide

theorem tare (times : Word) : Statement (.tare times) := fun _ => by
  rw [encode]; simp only [Instr.tableRow, Instr.opcode, Instr.arg, opcode_mask]; decide

theorem setOffset (value : Word) : Statement (.setOffset value) := fun _ => by
  rw [encode]; simp only [Instr.tableRow, Instr.opcode, Instr.arg, opcode_mask]; decide

theorem getOffset : Statement .getOffset := by unfold Statement; decide
theorem isReady : Statement .isReady := by unfold Statement; decide
theorem powerDown : Statement .powerDown := by unfold Statement; decide
theorem powerUp : Statement .powerUp := by unfold Statement; decide
theorem close : Statement .close := by unfold Statement; decide
theorem readNet : Statement .readNet := by unfold Statement; decide

end Sys2Proof.Laws.TableRow
end

