-- ==== Sys2Proof/Laws/Step.lean ====
section
/-! SUPPORT. What one step does, by the state of the ports (R19, R40, R45). -/

namespace Sys2Proof.Machine

/-- Idle: no command on the port. -/
theorem step_idle {s : State} (hb : s.busy = false) (hc : s.cmds = []) : step s = .next s := by
  simp [step, cmdReady, presented, hb, hc]

/-- A command is accepted and run. -/
theorem step_accept {s : State} {w : CmdWord} {rest : List CmdWord} (hb : s.busy = false) (hc : s.cmds = w :: rest) :
    step s = runWord w (accept s) := by
  simp [step, cmdReady, presented, hb, hc]

/-- The response is taken. -/
theorem step_take {s : State} (hb : s.busy = true) (hv : s.rspValid = true) (hr : s.rspReady = true) :
    step s = .next (takeResponse s) := by
  simp [step, cmdReady, hb, hv, hr]

/-- The response is held, or the command still waits for its transport. -/
theorem step_wait {s : State} (hb : s.busy = true) (h : s.rspValid = true → s.rspReady = false) :
    step s = .next s := by
  cases hv : s.rspValid with
  | false => simp [step, cmdReady, hb, hv]
  | true => simp [step, cmdReady, hb, hv, h hv]

theorem runWord_instr {w : CmdWord} {i : Instr} (h : decode w = .instr i) (s : State) : runWord w s = exec i s := by
  simp [runWord, h]

theorem runWord_illegal {w : CmdWord} {r : Reject} (h : decode w = .illegal r) (s : State) :
    runWord w s = .next (raise .illegalCmd s) := by
  simp [runWord, h]

/-- Everything a step can do: wait or idle, have the response taken, or accept a word and run it. -/
theorem step_cases {s t : State} (h : step s = .next t) :
    t = s ∨
    (s.busy = true ∧ s.rspValid = true ∧ s.rspReady = true ∧ t = takeResponse s) ∨
    (s.busy = false ∧ ∃ w rest, s.cmds = w :: rest ∧
      ((∃ i, decode w = .instr i ∧ exec i (accept s) = .next t) ∨
       (∃ r, decode w = .illegal r ∧ t = raise .illegalCmd (accept s)))) := by
  cases hb : s.busy with
  | false =>
    cases hc : s.cmds with
    | nil => rw [step_idle hb hc] at h; cases h; exact .inl rfl
    | cons w rest =>
      refine .inr (.inr ⟨rfl, w, rest, rfl, ?_⟩)
      rw [step_accept hb hc] at h
      cases hd : decode w with
      | instr i => rw [runWord_instr hd] at h; exact .inl ⟨i, rfl, h⟩
      | illegal r => rw [runWord_illegal hd] at h; cases h; exact .inr ⟨r, rfl, rfl⟩
  | true =>
    by_cases hv : s.rspValid = true ∧ s.rspReady = true
    · rw [step_take hb hv.1 hv.2] at h; cases h; exact .inr (.inl ⟨rfl, hv.1, hv.2, rfl⟩)
    · rw [step_wait hb (by intro h1; simpa [h1] using hv)] at h; cases h; exact .inl rfl

end Sys2Proof.Machine
end

