-- ==== Sys2Proof/Tests/Slice0.lean ====
section
/-! SUPPORT. Tests. Every expected result is read from the spec's worked examples and vectors (spec/95_test_vectors.md,
and the examples of the command rules), never from this model. The `witness_` theorems show a concrete state and
operands that meet the hypotheses of an obligation. -/

open Sys2Proof Sys2Proof.Machine

namespace Sys2Proof.Tests

/-! ## A small state, and what a test looks at -/

/-- The parameters of a test: the table is the D4 candidate. -/
def testPar (m : SignMode) (autoClose : Bool) : Params := ⟨candidateTable, m, autoClose, "spi0"⟩

/-- A running command's state, with the transport's answers given. -/
def testState (l : Life) (g : Gain) (o : Word) (p : Params) (acks : List Ack) (xfers : List XferAnswer) : State :=
  { State.reset with life := l, gainSel := g, offset := o, par := p, bus := ⟨acks, 0, xfers, 0, []⟩ }

/-- `AUTO_CLOSE = false`, `ZEXT`, handle open. -/
def opened (acks : List Ack) (xfers : List XferAnswer) : State :=
  testState .opened .g128 7 (testPar .zext false) acks xfers

/-- `AUTO_CLOSE = true`, `ZEXT`, handle open. -/
def oneShot (acks : List Ack) (xfers : List XferAnswer) : State :=
  testState .opened .g128 7 (testPar .zext true) acks xfers

/-- `LIFE = NONE`. -/
def unbuilt (acks : List Ack) : State := testState .none .g128 7 (testPar .zext false) acks []

/-- `LIFE = CLOSED`, gain 2, offset 7. -/
def released (acks : List Ack) : State := testState .closed .g32 7 (testPar .zext false) acks []

/-- The handle open under the sign mode `SEXT24`. -/
def openedSigned (xfers : List XferAnswer) : State := testState .opened .g128 7 (testPar .sext24 false) [] xfers

/-- An `Ok` answer of 7 bytes. -/
def got (a b c d e f g : Byte) : XferAnswer := .ok [a, b, c, d, e, f, g]

/-- An `Ok` answer carrying `Enc(v)`, the buffers of §2.8. -/
def gotEnc (v : BitVec 24) : XferAnswer := .ok (enc24 v).toList

/-- What a test compares: the response, and `LIFE`, `GAIN_SEL`, `OFFSET` after. -/
def ends : Host.Outcome State Fault Refusal → Option (Response × Life × Gain × Word)
  | .next t => if t.rspValid then some (t.rsp, t.life, t.gainSel, t.offset) else none
  | .fault _ => none
  | .refused _ => none

/-- The transactions issued. -/
def issues : Host.Outcome State Fault Refusal → Option (List BusEvent)
  | .next t => some t.bus.trace
  | .fault _ => none
  | .refused _ => none

/-- The block waits, with no response and the handshake as it was. -/
def hangs : Host.Outcome State Fault Refusal → Bool
  | .next t => !t.rspValid
  | .fault _ => false
  | .refused _ => false

/-- The waveform of the D4 candidate for gain 128. -/
def w0 : Buf7 := ⟨0xAA, 0xAA, 0xAA, 0xAA, 0xAA, 0xAA, 0x80⟩

/-- The waveform of the D4 candidate for gain 32. -/
def w2 : Buf7 := ⟨0xAA, 0xAA, 0xAA, 0xAA, 0xAA, 0xAA, 0xA8⟩

/-! ## WellFormed: the ill-formed terms -/

/-- R44 (2). -/
theorem test_wf_refuses_open_tag3 : (Instr.openBus 3).wf = false := by decide

/-- R44 (2). -/
theorem test_wf_refuses_setGain_tag3 : (Instr.setGain 3).wf = false := by decide

/-- R42: every other operand is legal at its extreme values. -/
theorem test_wf_accepts : (Instr.openBus 2).wf = true ∧ (Instr.setGain 0).wf = true ∧
    (Instr.readAvg 0xFFFFFFFF).wf = true ∧ (Instr.tare 0).wf = true ∧ (Instr.setOffset 0x80000000).wf = true := by
  decide

/-! ## Decode: words written out from R40 to R42, op in bits 35:32, arg in bits 31:0 -/

theorem test_decode_open : decode 0b0001_00000000000000000000000000000010#36 = .instr (.openBus 2) := by decide
theorem test_decode_setGain : decode 0b0010_00000000000000000000000000000001#36 = .instr (.setGain 1) := by decide
/-- §2.7: `arg` is ignored. -/
theorem test_decode_read : decode 0b0011_11111111111111111111111111111111#36 = .instr .read := by decide
theorem test_decode_readAvg : decode 0b0100_10000000000000000000000000000001#36 = .instr (.readAvg 0x80000001) := by
  decide
theorem test_decode_tare : decode 0b0101_00000000000000000000000000000010#36 = .instr (.tare 2) := by decide
theorem test_decode_setOffset : decode 0b0110_11111111111111111111111111111011#36 = .instr (.setOffset (-5)) := by decide
theorem test_decode_getOffset : decode 0b0111_00000000000000000000000000000000#36 = .instr .getOffset := by decide
theorem test_decode_isReady : decode 0b1000_00000000000000000000000000000000#36 = .instr .isReady := by decide
theorem test_decode_powerDown : decode 0b1001_00000000000000000000000000000000#36 = .instr .powerDown := by decide
theorem test_decode_powerUp : decode 0b1010_00000000000000000000000000000000#36 = .instr .powerUp := by decide
theorem test_decode_close : decode 0b1011_00000000000000000000000000000000#36 = .instr .close := by decide
theorem test_decode_readNet : decode 0b1100_00000000000000000000000000000000#36 = .instr .readNet := by decide

/-- §2.12 and §2.6: the illegal words. -/
theorem test_decode_illegal :
    decode 0x000000000#36 = .illegal .reservedOpcode ∧ decode 0x0FFFFFFFF#36 = .illegal .reservedOpcode ∧
    decode 0xD00000000#36 = .illegal .reservedOpcode ∧ decode 0xE12345678#36 = .illegal .reservedOpcode ∧
    decode 0xFFFFFFFFF#36 = .illegal .reservedOpcode ∧ decode 0x100000003#36 = .illegal .reservedTag ∧
    decode 0x200000003#36 = .illegal .reservedTag ∧ decode 0x100000004#36 = .illegal .reservedArgBits ∧
    decode 0x280000000#36 = .illegal .reservedArgBits := by decide

/-- The opcode table's numbering: one 36-bit word, bit 0 the least significant (log entry 16). -/
theorem test_decodeTableWord : decodeTableWord 36 0x100000001 = some (.openBus 1) ∧
    decodeTableWord 36 0xC00000000 = some .readNet ∧ decodeTableWord 36 0xD00000000 = none ∧
    decodeTableWord 40 0x200000002 = some (.setGain 2) := by decide

/-- R48 and the encodings of §3 P1, P4. -/
theorem test_assemble : assemble "OPEN G128" = some 0x100000000#36 ∧ assemble "TARE 2" = some 0x500000002#36 ∧
    assemble "READ_NET" = some 0xC00000000#36 ∧ assemble "SET_OFFSET 0x80000000" = some 0x680000000#36 ∧
    assemble "OPEN 3" = none ∧ assemble "READ 1" = none := by decide

/-! ## Pure datapath -/

/-- §2.1, the spot checks. -/
theorem test_nib : [0xAB, 0x55, 0xFF, 0x00, 0xAA, 0x54, 0x01, 0x40, 0xBF, 0x7F].map nib =
    [0xE#4, 0, 0, 0xF, 0xF, 1, 0xE, 7, 8, 0] := by decide

/-- §2.2. -/
theorem test_decode24 : decode24 ⟨0x54, 0x51, 0x50, 0x45, 0x44, 0x41, 0x00⟩ = 0x123456#24 ∧
    decode24 ⟨0x11, 0x10, 0x05, 0x04, 0x01, 0x00, 0x00⟩ = 0xABCDEF#24 ∧
    decode24 ⟨0x55, 0x55, 0x55, 0x55, 0x55, 0x54, 0x00⟩ = 1#24 ∧
    decode24 ⟨0xAB, 0xAB, 0xAB, 0xAB, 0xAB, 0xAB, 0x00⟩ = 0xEEEEEE#24 := by decide

/-- §2.3. -/
theorem test_dontCare : decode24 ⟨0xFE, 0xFB, 0xFA, 0xEF, 0xEE, 0xEB, 0x00⟩ = 0x123456#24 ∧
    decode24 ⟨0xAB, 0xAE, 0xAF, 0xBA, 0xBB, 0xBE, 0x5A⟩ = 0xEDCBA9#24 := by decide

/-- §2.2. -/
theorem test_ext : ext .zext 0x800000#24 = 8388608 ∧ ext .sext24 0x800000#24 = 0xFF800000 ∧
    ext .zext 0xABCDEF#24 = 11259375 ∧ ext .sext24 0xABCDEF#24 = -5517841 ∧ ext .sext24 0x7FFFFF#24 = 8388607 := by
  decide

/-- R67 (2) and the table of §2.2. -/
theorem test_enc24 : (enc24 0x123456#24).toList = [0x54, 0x51, 0x50, 0x45, 0x44, 0x41, 0x00] := by decide

/-- §2.4: the pulse counts of the candidates, and of a byte sequence that is no legal entry. -/
theorem test_pulses : pulseCount w0 = 25 ∧ pulseCount ⟨0xAA, 0xAA, 0xAA, 0xAA, 0xAA, 0xAA, 0xA0⟩ = 26 ∧
    pulseCount w2 = 27 ∧ pulseCount ⟨0xAA, 0xAA, 0xAA, 0xAA, 0xAA, 0xAA, 0xAA⟩ = 28 := by decide

/-- §2.9. -/
theorem test_net : net 150 101 = 49 ∧ net 100 101 = 0xFFFFFFFF ∧ net 0 0x80000000 = 0x80000000 ∧
    net 16777215 0x80000000 = 0x80FFFFFF ∧ net (-8388608) 0x7FFFFFFF = 0x7F800001 ∧ net (-1) 0xFFFFFFFB = 4 := by decide

/-! ## Commands, one step each -/

/-- §2.5. -/
theorem test_open : ends (exec (.openBus 2) (unbuilt [.ok, .ok])) = some (⟨.ok, 0⟩, .opened, .g32, 0) ∧
    issues (exec (.openBus 2) (unbuilt [.ok, .ok])) =
      some [.busOpen "spi0" .ok, .busConfigure 115200 0 8 .ok] := by decide

/-- §2.5 and X9: the cleanup close's error does not mask the configure error. -/
theorem test_open_configError : ends (exec (.openBus 1) (unbuilt [.ok, .err, .err])) =
      some (⟨.ioConfig, 0⟩, .none, .g128, 7) ∧
    issues (exec (.openBus 1) (unbuilt [.ok, .err, .err])) =
      some [.busOpen "spi0" .ok, .busConfigure 115200 0 8 .err, .busClose .err] := by decide

/-- §2.6, in `CLOSED`. -/
theorem test_setGain : ends (exec (.setGain 1) (released [])) = some (⟨.ok, 0⟩, .closed, .g64, 7) ∧
    issues (exec (.setGain 1) (released [])) = some [] := by decide

/-- §2.6, in `NONE`. -/
theorem test_setGain_none : ends (exec (.setGain 0) (unbuilt [])) = some (⟨.illegalState, 0⟩, .none, .g128, 7) := by
  decide

/-- §2.7: both sign modes on 0xFFFFFF. -/
theorem test_read : ends (exec .read (opened [] [got 0 0 0 0 0 0 0])) = some (⟨.ok, 16777215⟩, .opened, .g128, 7) ∧
    ends (exec .read (openedSigned [got 0 0 0 0 0 0 0])) = some (⟨.ok, 0xFFFFFFFF⟩, .opened, .g128, 7) ∧
    issues (exec .read (opened [] [got 0 0 0 0 0 0 0])) =
      some [.busTransfer w0 (got 0 0 0 0 0 0 0)] := by decide

/-- §2.7: the auto-close fails. -/
theorem test_read_closeError : ends (exec .read (oneShot [.err] [gotEnc 1])) =
      some (⟨.ioClose, 0⟩, .closed, .g128, 7) ∧
    issues (exec .read (oneShot [.err] [gotEnc 1])) = some [.busTransfer w0 (gotEnc 1), .busClose .err] := by decide

/-- §2.8: truncation toward zero, -4/3 = -1, and the unsigned mean of 10, 11, 13. -/
theorem test_readAvg : ends (exec (.readAvg 3) (openedSigned [gotEnc 0xFFFFFF, gotEnc 0xFFFFFF, gotEnc 0xFFFFFE])) =
      some (⟨.ok, 0xFFFFFFFF⟩, .opened, .g128, 7) ∧
    ends (exec (.readAvg 3) (opened [] [gotEnc 10, gotEnc 11, gotEnc 13])) =
      some (⟨.ok, 11⟩, .opened, .g128, 7) := by decide

/-- §2.8: the second read finds the handle closed. -/
theorem test_readAvg_autoClose : ends (exec (.readAvg 2) (oneShot [.ok] [gotEnc 100])) =
      some (⟨.notOpen, 0⟩, .closed, .g128, 7) ∧
    issues (exec (.readAvg 2) (oneShot [.ok] [gotEnc 100])) =
      some [.busTransfer w0 (gotEnc 100), .busClose .ok] := by decide

/-- §2.8: the average of 100 and 103 is stored. -/
theorem test_tare : ends (exec (.tare 2) (opened [] [gotEnc 100, gotEnc 103])) =
    some (⟨.ok, 0⟩, .opened, .g128, 101) := by decide

/-- §2.8: a transfer error and a count of 0 leave the offset. -/
theorem test_tare_errors : ends (exec (.tare 2) (opened [] [gotEnc 100, .err])) =
      some (⟨.ioTransfer, 0⟩, .opened, .g128, 7) ∧
    ends (exec (.tare 0) (opened [] [])) = some (⟨.divZero, 0⟩, .opened, .g128, 7) := by decide

/-- §2.9, P4 row 8. -/
theorem test_setOffset : ends (exec (.setOffset 0x80000000) (opened [] [])) =
    some (⟨.ok, 0⟩, .opened, .g128, 0x80000000) := by decide

/-- R77, P4 row 13: in `CLOSED` too. -/
theorem test_getOffset : ends (exec .getOffset (released [])) = some (⟨.ok, 7⟩, .closed, .g32, 7) := by decide

/-- §2.10. -/
theorem test_isReady : ends (exec .isReady (released [])) = some (⟨.ok, 1⟩, .closed, .g32, 7) ∧
    ends (exec .isReady (unbuilt [])) = some (⟨.illegalState, 0⟩, .none, .g128, 7) := by decide

/-- §2.10. -/
theorem test_powerDown : ends (exec .powerDown (opened [] [])) = some (⟨.ok, 0⟩, .opened, .g128, 7) ∧
    ends (exec .powerDown (unbuilt [])) = some (⟨.illegalState, 0⟩, .none, .g128, 7) := by decide

/-- §2.10. -/
theorem test_powerUp : ends (exec .powerUp (opened [] [])) = some (⟨.ok, 0⟩, .opened, .g128, 7) ∧
    ends (exec .powerUp (unbuilt [])) = some (⟨.illegalState, 0⟩, .none, .g128, 7) := by decide

/-- §2.11. -/
theorem test_close : ends (exec .close (opened [.err] [])) = some (⟨.ioClose, 0⟩, .closed, .g128, 7) ∧
    issues (exec .close (opened [.err] [])) = some [.busClose .err] := by decide

/-- §2.11 and X8: a second close succeeds and issues nothing. -/
theorem test_close_closed : ends (exec .close (released [])) = some (⟨.ok, 0⟩, .closed, .g32, 7) ∧
    issues (exec .close (released [])) = some [] := by decide

/-- §2.9 and P1 row 3: 150 - 101 = 49, the buffer's bytes as the table writes them. -/
theorem test_readNet :
    ends (exec .readNet { opened [] [got 0x55 0x55 0x55 0x55 0x14 0x41 0x00] with offset := 101 }) =
      some (⟨.ok, 49⟩, .opened, .g128, 101) := by decide

/-- R65: READ_NET needs the handle. -/
theorem test_readNet_closed : ends (exec .readNet (released [])) = some (⟨.notOpen, 0⟩, .closed, .g32, 7) := by decide

/-- §2.12: an illegal word in `OPEN`, through the step. -/
theorem test_step_illegal : ends (step ((opened [] []).withFetchWord 36 0xE12345678)) =
    some (⟨.illegalCmd, 0⟩, .opened, .g128, 7) := by decide

/-- R95: a short list. -/
theorem test_malformed : ends (exec .read (opened [] [.ok [0x55, 0x55]])) =
    some (⟨.malformed, 0⟩, .opened, .g128, 7) := by decide

/-- R102, R70: no answer, no response, also where a later read of an average is the one not answered. -/
theorem test_hang : hangs (exec .close (opened [.never] [])) = true ∧
    hangs (exec (.readAvg 2) (opened [] [gotEnc 100, .never])) = true ∧
    issues (exec (.readAvg 2) (opened [] [gotEnc 100, .never])) =
      some [.busTransfer w0 (gotEnc 100), .busTransfer w0 .never] := by decide

/-- `withFetchWord`: the very next step from reset runs the word; P4 row 1. -/
theorem test_withFetchWord : ends (step (State.reset.withFetchWord 36 0x300000000)) =
    some (⟨.illegalState, 0⟩, .none, .g128, 0) := by decide

/-! ## Witnesses: the hypotheses of each obligation, met together, one line per clause -/

/-- A word presented to a block that is free. -/
def offered (w : CmdWord) (s : State) : State := { s with cmds := [w], busy := false }

/-- A response presented, waiting to be taken. -/
def answered (ready : Bool) : State := { opened [] [] with busy := true, rspValid := true, rspReady := ready }

theorem witness_waveformTableLegal : candidateTable.legal = true := by decide

theorem witness_parametersNeverChange : ∃ t, step (offered 0x300000000#36 (opened [] [gotEnc 1])) = .next t := ⟨_, rfl⟩

theorem witness_decodeOfEncode : (Instr.openBus 2).wf = true ∧ (Instr.setOffset 0xFFFFFFFF).wf = true ∧
    Instr.readNet.wf = true := by decide

theorem witness_encodeOfDecode : decode 0x3FFFFFFFF#36 = .instr .read := by decide

/-- One word for each clause of R44, at the boundary values of its fields. -/
theorem witness_illegalWordsRefused : illegalWord 0xD00000000#36 ∧ illegalWord 0x200000003#36 ∧
    illegalWord 0x100000004#36 ∧ (offered 0x100000004#36 (opened [] [])).busy = false ∧
    (offered 0x100000004#36 (opened [] [])).cmds = 0x100000004#36 :: [] := by
  refine ⟨.inl (by decide), .inr (by decide), .inr (by decide), rfl, rfl⟩

theorem witness_stepRunsDecodedCommand : (offered 0x400000003#36 (opened [] [])).busy = false ∧
    (offered 0x400000003#36 (opened [] [])).cmds = 0x400000003#36 :: [] ∧
    decode 0x400000003#36 = .instr (.readAvg 3) := by decide

theorem witness_idleStepWaits : (opened [] []).busy = false ∧ (opened [] []).cmds = [] := by decide

theorem witness_responseHeldUntilTaken :
    ((answered false).busy = true ∧ (answered false).rspValid = true ∧ (answered false).rspReady = false) ∧
    ((answered true).busy = true ∧ (answered true).rspValid = true ∧ (answered true).rspReady = true) := by decide

theorem witness_commandsHeldWhileBusy : ∃ t, (answered true).busy = true ∧ step (answered true) = .next t := ⟨_, rfl, rfl⟩

/-- A hung block: busy, with no response. -/
theorem witness_hungBlock : { opened [] [] with busy := true }.busy = true ∧
    { opened [] [] with busy := true }.rspValid = false := by decide

/-- The words on the port and their command, with the block free. -/
def accepts (s : State) (w : CmdWord) (rest : List CmdWord) (i : Instr) : Prop :=
  s.busy = false ∧ s.cmds = w :: rest ∧ decode w = .instr i

/-- One state for each way to be blocked at once. -/
theorem witness_unansweredCommandWaitsForEver :
    (accepts (offered 0x100000000#36 (unbuilt [.never])) 0x100000000#36 [] (.openBus 0) ∧
      BlockedAtOnce (.openBus 0) (offered 0x100000000#36 (unbuilt [.never]))) ∧
    (accepts (offered 0x500000001#36 (opened [] [.never])) 0x500000001#36 [] (.tare 1) ∧
      BlockedAtOnce (.tare 1) (offered 0x500000001#36 (opened [] [.never]))) ∧
    (accepts (offered 0xB00000000#36 (opened [.never] [])) 0xB00000000#36 [] .close ∧
      BlockedAtOnce .close (offered 0xB00000000#36 (opened [.never] []))) := by
  unfold accepts BlockedAtOnce; decide

/-- An average whose first read, and one whose second read, is never answered; and one whose auto-close is not. -/
theorem witness_unansweredAverage :
    ((opened [] [gotEnc 100, .never]).life = .opened ∧ 1 < (2 : Word).toNat ∧
      (opened [] [gotEnc 100, .never]).par.autoClose = false ∧
      AnsweredBy (opened [] [gotEnc 100, .never]) (fun _ => enc24 100) 1 ∧
      (opened [] [gotEnc 100, .never]).bus.xferAt 1 = .never) ∧
    ((oneShot [] [.never]).life = .opened ∧ 0 < (1 : Word).toNat ∧
      AnsweredBy (oneShot [] [.never]) (fun _ => enc24 0) 0 ∧ (oneShot [] [.never]).bus.xferAt 0 = .never) ∧
    ((oneShot [.never] [gotEnc 100]).life = .opened ∧ (oneShot [.never] [gotEnc 100]).par.autoClose = true ∧
      (2 : Word) ≠ 0 ∧ (oneShot [.never] [gotEnc 100]).bus.xferAt 0 = .ok (enc24 100).toList ∧
      (oneShot [.never] [gotEnc 100]).bus.ackAt 0 = .never) := by
  unfold AnsweredBy; decide

/-- A step that presents no response, because a later transaction is never answered. -/
theorem witness_unansweredStep :
    (∃ t, (offered 0x400000002#36 (opened [] [gotEnc 100, .never])).busy = false ∧
      (offered 0x400000002#36 (opened [] [gotEnc 100, .never])).cmds ≠ [] ∧
      step (offered 0x400000002#36 (opened [] [gotEnc 100, .never])) = .next t ∧ t.rspValid = false) ∧
    (∃ t, (unbuilt [.ok, .err, .never]).rspValid = false ∧ exec (.openBus 0) (unbuilt [.ok, .err, .never]) = .next t) :=
  ⟨⟨_, rfl, by decide, rfl, by decide⟩, _, rfl, rfl⟩

theorem witness_oneResponsePerCommand : ∃ t, step (answered true) = .next t := ⟨_, rfl⟩

theorem witness_transactionsOnlyAppend : ∃ t, step (offered 0xB00000000#36 (opened [.ok] [])) = .next t := ⟨_, rfl⟩

theorem witness_illegalStateRefused :
    (Instr.read.wf = true ∧ isOpenCmd .read = false ∧ (unbuilt []).life = .none) ∧
    ((Instr.openBus 0).wf = true ∧ isOpenCmd (.openBus 0) = true ∧ (opened [] []).life = .opened) := by decide

theorem witness_onlyOpenConstructs :
    (∃ t, exec (.openBus 1) (unbuilt [.ok, .ok]) = .next t ∧ (unbuilt [.ok, .ok]).life = .none ∧ t.life ≠ .none) ∧
    (Instr.close.wf = true ∧ isOpenCmd .close = false ∧ (unbuilt []).life = .none) ∧
    (∃ t, exec (.openBus 0) (released [.ok, .ok]) = .next t ∧ (released [.ok, .ok]).life ≠ .opened ∧
      t.life = .opened) ∧
    (∃ t, exec .read (oneShot [.ok] [gotEnc 1]) = .next t ∧ isOpenCmd .read = false) :=
  ⟨⟨_, rfl, by decide, by decide⟩, by decide, ⟨_, rfl, by decide, by decide⟩, ⟨_, rfl, by decide⟩⟩

theorem witness_lifeTransitions : ∃ t, exec .readNet (oneShot [.err] [gotEnc 1]) = .next t := ⟨_, rfl⟩

theorem witness_openOutcomes :
    ((0x00000004#32).extractLsb' 2 30 ≠ 0#30 ∧ (0x80000000#32).extractLsb' 2 30 ≠ 0#30) ∧
    (Gain.ofTag 2#2 = some Gain.g32 ∧ (opened [] []).life = .opened) ∧
    ((unbuilt [.err]).life ≠ .opened ∧ (unbuilt [.err]).bus.ackAt 0 = .err) ∧
    ((released [.ok, .err, .err]).life ≠ .opened ∧ (released [.ok, .err, .err]).bus.ackAt 0 = .ok ∧
      (released [.ok, .err, .err]).bus.ackAt 1 = .err ∧ (released [.ok, .err, .err]).bus.ackAt 2 ≠ .never) ∧
    ((unbuilt [.ok, .ok]).bus.ackAt 0 = .ok ∧ (unbuilt [.ok, .ok]).bus.ackAt 1 = .ok) ∧
    ((unbuilt [.never]).bus.ackAt 0 = .never) ∧
    ((unbuilt [.ok, .never]).bus.ackAt 0 = .ok ∧ (unbuilt [.ok, .never]).bus.ackAt 1 = .never) ∧
    ((unbuilt [.ok, .err, .never]).bus.ackAt 0 = .ok ∧ (unbuilt [.ok, .err, .never]).bus.ackAt 1 = .err ∧
      (unbuilt [.ok, .err, .never]).bus.ackAt 2 = .never) := by decide

theorem witness_openFailureLaw : ∃ t, (unbuilt [.ok, .err, .err]).rspValid = false ∧
    exec (.openBus 1) (unbuilt [.ok, .err, .err]) = .next t ∧ t.rspValid = true ∧ t.rsp.err ≠ .ok :=
  ⟨_, rfl, rfl, by decide, by decide⟩

theorem witness_openFailureLaw_openFails : ∃ t, (released [.err]).rspValid = false ∧
    exec (.openBus 1) (released [.err]) = .next t ∧ t.rspValid = true ∧ t.rsp.err ≠ .ok :=
  ⟨_, rfl, rfl, by decide, by decide⟩

theorem witness_closeOutcomes : (unbuilt []).life = .none ∧ (released []).life = .closed ∧
    ((opened [.ok] []).life = .opened ∧ (opened [.ok] []).bus.ackAt 0 = .ok) ∧
    (opened [.err] []).bus.ackAt 0 = .err ∧ (opened [.never] []).bus.ackAt 0 = .never := by decide

theorem witness_failedCloseReleases : (oneShot [.err] [gotEnc 1]).life = .opened ∧
    (oneShot [.err] [gotEnc 1]).bus.ackAt 0 = .err ∧ readsOnce (.readAvg 1) = true ∧
    (oneShot [.err] [gotEnc 1]).par.autoClose = true ∧
    (oneShot [.err] [gotEnc 1]).bus.xferAt 0 = .ok (Buf7.toList (enc24 1)) := by decide

/-- Two closes, with the open between them. -/
def reopened : State :=
  { released [] with
    bus := ⟨[], 0, [], 0, [.busOpen "spi0" .ok, .busConfigure 115200 0 8 .ok, .busClose .ok, .busOpen "spi0" .ok,
      .busConfigure 115200 0 8 .ok, .busClose .err]⟩ }

theorem witness_invariant : reopened.Inv := by
  constructor <;> decide

theorem witness_atMostOneCloseBetweenOpens :
    (reopened.Inv ∧ reopened.bus.trace = [.busOpen "spi0" .ok, .busConfigure 115200 0 8 .ok] ++ .busClose .ok ::
      [.busOpen "spi0" .ok, .busConfigure 115200 0 8 .ok] ++ .busClose .err :: []) ∧
    ∃ t, isOpenCmd .close = false ∧ (released []).life ≠ .opened ∧ exec .close (released []) = .next t :=
  ⟨⟨witness_invariant, by decide⟩, _, by decide, by decide, rfl⟩

theorem witness_setGainOutcomes : (0x00000004#32).extractLsb' 2 30 ≠ 0#30 ∧ Gain.ofTag 0#2 = some .g128 ∧
    Gain.ofTag 2#2 = some .g32 ∧ (unbuilt []).life = .none ∧ (released []).life ≠ .none := by decide

/-- The two premises of a command that touches only registers (`LocalOutcomes`): SET_OFFSET, GET_OFFSET, IS_READY,
POWER_DOWN, POWER_UP. -/
theorem witness_localOutcomes : (unbuilt []).life = .none ∧ (released []).life ≠ .none ∧
    (opened [] []).life ≠ .none := by decide

theorem witness_powerDownChangesNothing : ∃ t u v, exec .powerDown (opened [] [gotEnc 1]) = .next t ∧
    exec .read (opened [] [gotEnc 1]) = .next u ∧ exec .read t = .next v ∧ u.rspValid = true ∧
    (opened [] [gotEnc 1]).rspValid = false := ⟨_, _, _, rfl, rfl, rfl, by decide, rfl⟩

/-- The ends of the range where the difference is exact, of the range of a read, and of the corner. -/
theorem witness_subtractorLaw :
    (-(2 : Int) ^ 31 ≤ (0x80000000#32).toInt - (0#32).toInt ∧ (0x80000000#32).toInt - (0#32).toInt < (2 : Int) ^ 31) ∧
    (-(2 : Int) ^ 31 ≤ (0x7FFFFFFF#32).toInt - (0#32).toInt ∧ (0x7FFFFFFF#32).toInt - (0#32).toInt < (2 : Int) ^ 31) ∧
    (-(2 : Int) ^ 23 ≤ (0xFF800000#32).toInt ∧ (0xFF800000#32).toInt < (2 : Int) ^ 24 ∧
      -(2 : Int) ^ 23 ≤ (0x00FFFFFF#32).toInt ∧ (0x00FFFFFF#32).toInt < (2 : Int) ^ 24) ∧
    0 ≤ (0x7FFFFFFF#32).toInt := by decide

theorem witness_decoderBitMap : 5 < 6 ∧ 3 < 4 := by decide

theorem witness_signStage : (0x7FFFFF#24).getLsbD 23 = false ∧ (0x800000#24).getLsbD 23 = true := by decide

/-- Two scripts that agree on the data bits, holding an answer of 7 bytes, one of 6, an error and no answer. -/
def noisy (b6 : Byte) (odd : Byte) : List XferAnswer :=
  [got (0x54 ||| odd) 0x51 0x50 0x45 0x44 0x41 b6, .ok [0x54 ||| odd, 0x51, 0x50, 0x45, 0x44, 0x41], .err, .never]

theorem witness_dontCareBits :
    (∀ k, k < 6 → Buf7.byte ⟨0xFE, 0xFB, 0xFA, 0xEF, 0xEE, 0xEB, 0x00⟩ k &&& 0x55#8 =
      Buf7.byte ⟨0x54, 0x51, 0x50, 0x45, 0x44, 0x41, 0xFF⟩ k &&& 0x55#8) ∧
    noisy 0x00 0xAA ≠ noisy 0xFF 0x00 ∧ (noisy 0x00 0xAA).length = (noisy 0xFF 0x00).length ∧
    (∀ p ∈ (noisy 0x00 0xAA).zip (noisy 0xFF 0x00), agreeOnData p.1 p.2 = true) ∧
    ∃ t u, exec (.tare 2) { opened [] [] with bus := { (opened [] []).bus with xfers := noisy 0x00 0xAA } } = .next t ∧
      exec (.tare 2) { opened [] [] with bus := { (opened [] []).bus with xfers := noisy 0xFF 0x00 } } = .next u :=
  ⟨by decide, by decide, rfl, by decide, _, _, rfl, rfl⟩

/-- The other value of each data bit is seen: the relation is no more than R68 allows. -/
theorem test_agreeOnData_refuses : agreeOnData (got 0x54 0 0 0 0 0 0) (got 0x55 0 0 0 0 0 0) = false ∧
    agreeOnData (got 0 0 0 0 0 0x40 0) (got 0 0 0 0 0 0 0) = false ∧ agreeOnData .err .never = false ∧
    agreeOnData (.ok []) (.ok [0]) = false := by decide

/-- An answer one byte short. -/
def sixBytes : List Byte := [0x55, 0x55, 0x55, 0x55, 0x55, 0x54]

/-- An answer one byte long. -/
def eightBytes : List Byte := [0x55, 0x55, 0x55, 0x55, 0x55, 0x54, 0x00, 0x00]

/-- READ and READ_NET: a state for each way a read can go. -/
theorem witness_singleReadOutcomes : (unbuilt []).life = .none ∧ (released []).life = .closed ∧
    ((opened [] [.err]).life = .opened ∧ (opened [] [.err]).bus.xferAt 0 = .err) ∧
    ((opened [] [.ok []]).bus.xferAt 0 = .ok [] ∧ ([] : List Byte).length ≠ 7) ∧
    ((opened [] [.ok sixBytes]).bus.xferAt 0 = .ok sixBytes ∧ sixBytes.length ≠ 7) ∧
    ((opened [] [.ok eightBytes]).bus.xferAt 0 = .ok eightBytes ∧ eightBytes.length ≠ 7) ∧
    (opened [] [.never]).bus.xferAt 0 = .never ∧
    ((opened [] [gotEnc 1]).bus.xferAt 0 = .ok (enc24 1).toList ∧ (opened [] [gotEnc 1]).par.autoClose = false) ∧
    ((oneShot [.ok] [gotEnc 1]).life = .opened ∧ (oneShot [.ok] [gotEnc 1]).bus.xferAt 0 = .ok (enc24 1).toList ∧
      (oneShot [.ok] [gotEnc 1]).par.autoClose = true ∧ (oneShot [.ok] [gotEnc 1]).bus.ackAt 0 = .ok) ∧
    (oneShot [.err] [gotEnc 1]).bus.ackAt 0 = .err ∧ (oneShot [.never] [gotEnc 1]).bus.ackAt 0 = .never := by decide

theorem witness_averageOfZeroReads : (opened [] []).life ≠ .none ∧ (released []).life ≠ .none := by decide

/-- Two answered reads: READ_AVG and TARE. -/
theorem witness_averages : (opened [] [gotEnc 100, gotEnc 103]).life = .opened ∧
    (opened [] [gotEnc 100, gotEnc 103]).par.autoClose = false ∧ (2 : Word) ≠ 0 ∧
    AnsweredBy (opened [] [gotEnc 100, gotEnc 103]) (fun k => if k = 0 then enc24 100 else enc24 103)
      (2 : Word).toNat := by
  unfold AnsweredBy; decide

theorem witness_transferErrorEndsCommand :
    ((opened [] [.err]).life = .opened ∧ (opened [] [.err]).bus.xferAt 0 = .err) ∧
    ((opened [] [gotEnc 100, .err]).life = .opened ∧ 1 < (2 : Word).toNat ∧
      (opened [] [gotEnc 100, .err]).par.autoClose = false ∧
      AnsweredBy (opened [] [gotEnc 100, .err]) (fun _ => enc24 100) 1 ∧
      (opened [] [gotEnc 100, .err]).bus.xferAt 1 = .err) ∧
    ((oneShot [] [.err]).life = .opened ∧ 0 < (1 : Word).toNat ∧ AnsweredBy (oneShot [] [.err]) (fun _ => enc24 0) 0 ∧
      (oneShot [] [.err]).bus.xferAt 0 = .err) := by
  unfold AnsweredBy; decide

theorem witness_malformedResponse :
    ((opened [] [.ok sixBytes]).life = .opened ∧ readsOnce .readNet = true ∧
      (opened [] [.ok sixBytes]).bus.xferAt 0 = .ok sixBytes ∧ sixBytes.length ≠ 7) ∧
    ((opened [] [.ok eightBytes]).life = .opened ∧ readsOnce (.tare 1) = true ∧
      (opened [] [.ok eightBytes]).bus.xferAt 0 = .ok eightBytes ∧ eightBytes.length ≠ 7) ∧
    ((opened [] [gotEnc 100, .ok eightBytes]).life = .opened ∧ 1 < (2 : Word).toNat ∧
      (opened [] [gotEnc 100, .ok eightBytes]).par.autoClose = false ∧
      AnsweredBy (opened [] [gotEnc 100, .ok eightBytes]) (fun _ => enc24 100) 1 ∧
      (opened [] [gotEnc 100, .ok eightBytes]).bus.xferAt 1 = .ok eightBytes) ∧
    ((oneShot [] [.ok sixBytes]).life = .opened ∧ 0 < (1 : Word).toNat ∧
      AnsweredBy (oneShot [] [.ok sixBytes]) (fun _ => enc24 0) 0 ∧
      (oneShot [] [.ok sixBytes]).bus.xferAt 0 = .ok sixBytes) ∧
    ((∀ k l, k < readLimit .read → (opened [] [gotEnc 1]).bus.xferAt k = .ok l → l.length = 7) ∧
      (opened [] [gotEnc 1]).rspValid = false ∧
      ∃ t, exec .read (opened [] [gotEnc 1]) = .next t ∧ t.rspValid = true) := by
  refine ⟨by decide, by decide, by unfold AnsweredBy; decide, by unfold AnsweredBy; decide, ?_, rfl, _, rfl,
    by decide⟩
  intro k l hk h
  obtain rfl : k = 0 := by simpa [readLimit] using hk
  cases h; rfl

/-- The counts 1 and 2, where the two clauses part. -/
theorem witness_averageUnderAutoClose : (oneShot [.ok] [gotEnc 100]).life = .opened ∧
    (oneShot [.ok] [gotEnc 100]).par.autoClose = true ∧
    (oneShot [.ok] [gotEnc 100]).bus.xferAt 0 = .ok (enc24 100).toList ∧
    (oneShot [.ok] [gotEnc 100]).bus.ackAt 0 = .ok ∧ 2 ≤ (2 : Word).toNat ∧ ¬ 2 ≤ (1 : Word).toNat := by decide

theorem witness_readsNeedOpenHandle : readsOnce (.tare 1) = true ∧ (released []).life = .closed := by decide

theorem witness_oneShotLaw :
    ((oneShot [.ok] [gotEnc 1]).par.autoClose = true ∧ ∃ t, readCore (oneShot [.ok] [gotEnc 1]) = .done 1 t) ∧
    (reading (.readAvg 0) = true ∧ (released []).life = .closed) ∧
    (isOpenCmd .isReady = false ∧ ∃ t, exec .isReady (released []) = .next t) ∧
    (opened [] []).par.autoClose = false :=
  ⟨⟨rfl, _, rfl⟩, by decide, ⟨rfl, _, rfl⟩, rfl⟩

theorem witness_waveformSentIsSelected : ∃ t, exec (.readAvg 1) (opened [] [gotEnc 1]) = .next t := ⟨_, rfl⟩

theorem witness_readingFrame : ∃ t, reading .read = true ∧ exec .read (opened [] [.err]) = .next t ∧
    (opened [] [.err]).rspValid = false ∧ (t.rspValid = true → t.rsp.err ≠ .ok) := ⟨_, rfl, rfl, rfl, by decide⟩

theorem witness_accumulatorExact : (opened [] [gotEnc 5]).life = .opened ∧
    (opened [] [gotEnc 5]).par.autoClose = false ∧ 1 < 2 ^ 32 ∧
    AnsweredBy (opened [] [gotEnc 5]) (fun _ => enc24 5) 1 ∧
    ∃ t, avgLoop 1 (clearAccumulator (opened [] [gotEnc 5])) = .done () t :=
  ⟨rfl, rfl, by decide, by unfold AnsweredBy; decide, _, rfl⟩

/-- A sum of two negative values, and bounds on them. -/
theorem witness_divisionLaw : 1 ≤ 2 ∧ readSum .sext24 (fun _ => enc24 0xFFFFFF#24) 2 ≤ 0 ∧
    0 ≤ readSum .zext (fun _ => enc24 0xFFFFFF#24) 2 ∧
    (∀ k, k < 2 → -1 ≤ (valueOf .sext24 (enc24 0xFFFFFF#24)).toInt ∧
      (valueOf .sext24 (enc24 0xFFFFFF#24)).toInt ≤ -1) := by decide

theorem witness_tareEquivalences :
    ((opened [] [gotEnc 100]).life = .opened ∧ (opened [] [gotEnc 100]).par.autoClose = false ∧ (1 : Word) ≠ 0 ∧
      AnsweredBy (opened [] [gotEnc 100]) (fun _ => enc24 100) (1 : Word).toNat) ∧
    (∃ t u, (opened [] [gotEnc 100]).rspValid = false ∧ exec (.tare 1) (opened [] [gotEnc 100]) = .next t ∧
      exec (.readAvg 1) (opened [] [gotEnc 100]) = .next u ∧ Answers u ⟨.ok, 100⟩) ∧
    (∃ t u, exec (.tare 1) (opened [] [.err]) = .next t ∧ exec (.readAvg 1) (opened [] [.err]) = .next u ∧
      u.rsp.err ≠ .ok) ∧
    (∃ t u, exec (.tare 1) (opened [] [.never]) = .next t ∧ exec (.readAvg 1) (opened [] [.never]) = .next u ∧
      u.rspValid = false) := by
  refine ⟨by unfold AnsweredBy; decide, ⟨_, _, rfl, rfl, rfl, ?_⟩, ⟨_, _, rfl, rfl, by decide⟩, ⟨_, _, rfl, rfl, rfl⟩⟩
  unfold Answers; decide

theorem witness_statusesByCommand : ∃ t, (oneShot [.err] [gotEnc 1]).rspValid = false ∧
    exec .read (oneShot [.err] [gotEnc 1]) = .next t ∧ t.rspValid = true ∧ t.rsp.err ≠ .ok ∧ t.rsp.err = .ioClose :=
  ⟨_, rfl, rfl, by decide, by decide, by decide⟩

theorem witness_offsetNotApplied : ∃ t u, Instr.tare 1 ≠ .readNet ∧ Instr.tare 1 ≠ .getOffset ∧
    exec (.tare 1) (opened [] [gotEnc 100]) = .next t ∧
    exec (.tare 1) { opened [] [gotEnc 100] with offset := 9 } = .next u ∧
    t.offset ≠ (opened [] [gotEnc 100]).offset := ⟨_, _, by decide, by decide, rfl, rfl, by decide⟩

theorem witness_transientsNotRead : ∃ t u, exec .read (opened [] [gotEnc 1]) = .next t ∧
    exec .read { opened [] [gotEnc 1] with dp := ⟨w0, w2, 3, 4, 5, 6⟩ } = .next u := ⟨_, _, rfl, rfl⟩

theorem witness_unwrittenRegistersUnobservable : ∃ t u, (unbuilt [.ok, .ok]).life = .none ∧
    exec (.openBus 0) (unbuilt [.ok, .ok]) = .next t ∧
    exec (.openBus 0) { unbuilt [.ok, .ok] with gainSel := .g32, offset := 9 } = .next u ∧ t.life ≠ .none :=
  ⟨_, _, rfl, rfl, rfl, by decide⟩

theorem witness_stepKeepsInvariant : ∃ t, reopened.Inv ∧ step reopened = .next t := ⟨_, witness_invariant, rfl⟩

end Sys2Proof.Tests
end

section
/-! PROOFS. The waveform table (R6 (2), R50): a legal table is one whose every entry has its variant's pulse count;
imposing that on a choice of entry yields only such entries and keeps those that are; the platform's table is legal. -/

namespace Sys2Proof

theorem Waveforms.legal_iff (t : Waveforms) : t.legal = true ↔ ∀ g, pulseCount (t.sel g) = g.pulses := by
  simp only [Waveforms.legal, Bool.and_eq_true, beq_iff_eq]
  constructor
  · rintro ⟨⟨h128, h64⟩, h32⟩ g
    cases g with
    | g128 => exact h128
    | g64 => exact h64
    | g32 => exact h32
  · intro h
    exact ⟨⟨h .g128, h .g64⟩, h .g32⟩

theorem pulseCount_candidateWave (g : Gain) : pulseCount (candidateWave g) = g.pulses := by
  cases g <;> decide

theorem candidateTable_sel (g : Gain) : candidateTable.sel g = candidateWave g := by
  cases g <;> rfl

/-- R6 (2): whatever the choice, the entry formed from it has the pulse count of its variant. -/
theorem pulseCount_legalEntry (g : Gain) (choice : Buf7) : pulseCount (legalEntry g choice) = g.pulses := by
  unfold legalEntry
  split
  next h => exact h
  next => exact pulseCount_candidateWave g

/-- Log entry 8: a choice that already has the right pulse count stays as it is. -/
theorem legalEntry_eq_self {g : Gain} {choice : Buf7} (h : pulseCount choice = g.pulses) :
    legalEntry g choice = choice := if_pos h

theorem waveform_sel (g : Gain) : Config.waveform.sel g = legalEntry g (Config.waveformChoice.sel g) := by
  cases g <;> rfl

theorem pulseCount_waveform_sel (g : Gain) : pulseCount (Config.waveform.sel g) = g.pulses := by
  rw [waveform_sel]
  exact pulseCount_legalEntry g _

theorem waveform_legal : Config.waveform.legal = true :=
  (Waveforms.legal_iff _).2 pulseCount_waveform_sel

end Sys2Proof

namespace Sys2Proof.Machine

/-- Settles O3: the reset table is the platform's, whose entries `legalEntry` forms. -/
theorem waveformTableLegal : Obligations.WaveformTableLegal :=
  ⟨pulseCount_waveform_sel,
   fun t g ht => legalEntry_eq_self ((Waveforms.legal_iff t).1 ht g),
   fun g => ⟨candidateTable_sel g, pulseCount_candidateWave g⟩⟩

end Sys2Proof.Machine
end

section
/-! PROOFS. What a command and a step do to the view of a state (R13, R14, R26): which registers they may write, and
how they may move `LIFE`. -/

namespace Sys2Proof.Machine

/-- How the view may change over reads (R65): not at all, or, with `AUTO_CLOSE`, to `LIFE = CLOSED`. -/
def ReadMoves (s t : State) : Prop :=
  t.arch = s.arch ∨ (s.par.autoClose = true ∧ t.arch = { s.arch with life := .closed })

/-- How the view may change over a command (R14 to R16): `GAIN_SEL` and `OFFSET` in any way, `LIFE` by one of its
transitions, and nothing else. -/
def CommandMoves (i : Instr) (s t : State) : Prop :=
  ∃ g o,
    t.arch = { s.arch with gainSel := g, offset := o } ∨
    (isOpenCmd i = true ∧ s.life ≠ .opened ∧
      t.arch = { s.arch with life := .opened, gainSel := g, offset := o }) ∨
    (s.life = .opened ∧ (i = .close ∨ (reading i = true ∧ s.par.autoClose = true)) ∧
      t.arch = { s.arch with life := .closed, gainSel := g, offset := o })

theorem CommandMoves.of_arch_eq {i : Instr} {s t : State} (h : t.arch = s.arch) : CommandMoves i s t :=
  ⟨s.gainSel, s.offset, .inl h⟩

/-- The view after a command is the view after its last piece: ending a command writes none of it. -/
theorem final_arch (r : Ran Word) : r.final.arch = r.state.arch := by
  cases r <;> rfl

/-- What is shown of a command's last piece holds of the command. -/
theorem CommandMoves.final {i : Instr} {s : State} {r : Ran Word} (h : CommandMoves i s r.state) :
    CommandMoves i s r.final := by
  unfold CommandMoves at *
  rwa [final_arch]

/-- A command that starts with the check of R55: only the case outside `NONE` is left. -/
theorem CommandMoves.of_needsInstance {i : Instr} {s : State} {f : State → Ran Word}
    (h : s.life ≠ .none → CommandMoves i s (f s).state) : CommandMoves i s (needsInstance s f).state := by
  by_cases hl : s.life = .none
  · rw [needsInstance_none hl]; exact .of_arch_eq rfl
  · rw [needsInstance_some hl]; exact h hl

/-! ## Reads -/

theorem ReadMoves.trans {s t u : State} (h : ReadMoves s t) (h' : ReadMoves t u) : ReadMoves s u := by
  have hpar : t.par = s.par := by
    rcases h with h | ⟨-, h⟩ <;> exact congrArg Arch.par h
  unfold ReadMoves at *
  rw [hpar] at h'
  rcases h with h | ⟨ha, h⟩
  · rwa [h] at h'
  · refine .inr ⟨ha, ?_⟩
    rcases h' with h' | ⟨-, h'⟩ <;> rw [h', h]

theorem readCore_moves (s : State) : ReadMoves s (readCore s).state := by
  rcases readCore_cases s with ⟨-, e⟩ | ⟨-, ⟨-, e⟩ | ⟨-, e⟩ | ⟨l, -, -, e⟩ |
    ⟨rx, -, ⟨-, e⟩ | ⟨ha, ⟨-, e⟩ | ⟨-, e⟩ | ⟨-, e⟩⟩⟩⟩ <;> rw [e]
  · exact .inl rfl
  · exact .inl (sent_arch s)
  · exact .inl (sent_arch s)
  · exact .inl (sent_arch s)
  · exact .inl (received_arch rx s)
  all_goals exact .inr ⟨ha, autoClosed_arch rx s⟩

theorem avgLoop_moves (k : Nat) (s : State) : ReadMoves s (avgLoop k s).state :=
  avgLoop_keeps (P := ReadMoves s) (fun t h => h.trans (readCore_moves t)) (fun _ _ h => h) k s (.inl rfl)

theorem avgCore_moves (n : Nat) (s : State) : ReadMoves s (avgCore n s).state := by
  refine state_bind _ _ (avgLoop_moves n (clearAccumulator s)) fun _ s1 he => ?_
  have h := avgLoop_moves n (clearAccumulator s)
  rw [he] at h
  split <;> exact h

/-- Reads, and at most a write of `OFFSET` after them, move the view as a reading command may. -/
theorem ReadMoves.commandMoves {i : Instr} {s t u : State} (hi : reading i = true) (hl : s.life ≠ .none)
    (h : ReadMoves s t) (o : Word) (hu : u.arch = { t.arch with offset := o }) : CommandMoves i s u := by
  refine ⟨s.gainSel, o, ?_⟩
  rcases h with h | ⟨ha, h⟩
  · exact .inl (by rw [hu, h]; rfl)
  · cases hs : s.life with
    | none => exact absurd hs hl
    | opened => exact .inr (.inr ⟨rfl, .inr ⟨hi, ha⟩, by rw [hu, h]; rfl⟩)
    | closed => exact .inl (by rw [hu, h]; simp [State.arch, hs])

/-- A reading command: a piece that reads, and a rest that at most writes `OFFSET`. -/
theorem CommandMoves.of_reads {α : Type} {i : Instr} {s : State} {r : Ran α} {f : α → State → Ran Word}
    (hi : reading i = true) (hl : s.life ≠ .none) (h : ReadMoves s r.state)
    (hf : ∀ a t, ∃ o, (f a t).state.arch = { t.arch with offset := o }) : CommandMoves i s (r.bind f).state := by
  refine state_bind r f (h.commandMoves hi hl r.state.offset rfl) fun a t he => ?_
  obtain ⟨o, ho⟩ := hf a t
  rw [he] at h
  exact h.commandMoves hi hl o ho

/-! ## Commands -/

theorem execOpen_moves {tag : BitVec 2} {s t : State} (h : exec (.openBus tag) s = .next t) :
    CommandMoves (.openBus tag) s t := by
  rcases execOpen_cases tag s with ⟨-, e⟩ | ⟨g, -, ⟨-, e⟩ | ⟨hl, e⟩⟩ <;> rw [e] at h <;> cases h
  · exact .of_arch_eq rfl
  · exact .of_arch_eq rfl
  · refine CommandMoves.final ?_
    rcases openSequence_cases g s with ⟨-, e⟩ | ⟨-, e⟩ | ⟨-, ⟨-, e⟩ | ⟨-, -, e⟩ | ⟨-, -, e⟩ | ⟨-, e⟩⟩ <;> rw [e]
    · exact .of_arch_eq (busOpen_arch s)
    · exact .of_arch_eq (busOpen_arch s)
    · exact .of_arch_eq (configured_arch s)
    · exact .of_arch_eq (cleanedUp_arch s)
    · exact .of_arch_eq (cleanedUp_arch s)
    · exact ⟨g, 0, .inr (.inl ⟨rfl, hl, constructed_arch g s⟩)⟩

theorem releaseHandle_arch (s : State) : (releaseHandle s).state.arch = { s.arch with life := .closed } := by
  rcases releaseHandle_cases s with ⟨-, e⟩ | ⟨-, e⟩ | ⟨-, e⟩ <;> rw [e] <;> exact closedHandle_arch s

theorem execClose_moves {s t : State} (h : exec .close s = .next t) : CommandMoves .close s t := by
  cases h
  refine CommandMoves.final ?_
  cases hl : s.life with
  | none => exact .of_arch_eq rfl
  | closed => exact .of_arch_eq rfl
  | opened => exact ⟨s.gainSel, s.offset, .inr (.inr ⟨hl, .inl rfl, releaseHandle_arch s⟩)⟩

/-- Everything a command can do to the view of a state (R13, R14). -/
theorem exec_moves {i : Instr} {s t : State} (h : exec i s = .next t) : CommandMoves i s t := by
  cases i with
  | openBus tag => exact execOpen_moves h
  | close => exact execClose_moves h
  | setGain tag =>
    cases h
    refine CommandMoves.final ?_
    cases Gain.ofTag tag with
    | none => exact .of_arch_eq rfl
    | some g => exact .of_needsInstance fun _ => ⟨g, s.offset, .inl rfl⟩
  | setOffset value =>
    cases h
    exact .final (.of_needsInstance fun _ => ⟨s.gainSel, value, .inl rfl⟩)
  | read =>
    cases h
    exact .final (.of_needsInstance fun hl => (readCore_moves s).commandMoves rfl hl _ rfl)
  | readNet =>
    cases h
    exact .final (.of_needsInstance fun hl => .of_reads rfl hl (readCore_moves s) fun _ t => ⟨t.offset, rfl⟩)
  | readAvg times =>
    cases h
    exact .final (.of_needsInstance fun hl => .of_reads rfl hl (avgCore_moves _ s) fun _ t => ⟨t.offset, rfl⟩)
  | tare times =>
    cases h
    exact .final (.of_needsInstance fun hl => .of_reads rfl hl (avgCore_moves _ s) fun q _ => ⟨wrap32 q, rfl⟩)
  | getOffset => cases h; exact .final (.of_needsInstance fun _ => .of_arch_eq rfl)
  | isReady => cases h; exact .final (.of_needsInstance fun _ => .of_arch_eq rfl)
  | powerDown => cases h; exact .final (.of_needsInstance fun _ => .of_arch_eq rfl)
  | powerUp => cases h; exact .final (.of_needsInstance fun _ => .of_arch_eq rfl)

/-- A command writes no field of the view but `LIFE`, `GAIN_SEL` and `OFFSET` (R13, R26). -/
theorem exec_frame {i : Instr} {s t : State} (h : exec i s = .next t) :
    t.arch = { s.arch with life := t.life, gainSel := t.gainSel, offset := t.offset } := by
  change t.arch = { s.arch with life := t.arch.life, gainSel := t.arch.gainSel, offset := t.arch.offset }
  obtain ⟨g, o, e | ⟨-, -, e⟩ | ⟨-, -, e⟩⟩ := exec_moves h <;> rw [e]

/-- Settles O4: a command's frame holds the parameters, and so do the handshakes. -/
theorem parametersNeverChange : Obligations.ParametersNeverChange := by
  intro s t h
  rcases step_cases h with rfl | ⟨-, -, -, rfl⟩ | ⟨-, w, rest, -, ⟨i, -, he⟩ | ⟨r, -, rfl⟩⟩
  · rfl
  · exact takeResponse_par s
  · exact (congrArg Arch.par (exec_frame he)).trans (accept_par s)
  · rfl

/-- Settles O21: the three ways in which a command may move the view. -/
theorem lifeTransitions : Obligations.LifeTransitions := by
  intro i s t h
  obtain ⟨g, o, e | ⟨hi, hl, e⟩ | ⟨hl, hi, e⟩⟩ := exec_moves h
  · exact .inl (congrArg Arch.life e)
  · exact .inr (.inl ⟨hi, hl, congrArg Arch.life e⟩)
  · exact .inr (.inr ⟨hl, congrArg Arch.life e, hi⟩)

/-- Settles O14: with `BUSY = 1` a step waits or has the response taken. -/
theorem commandsHeldWhileBusy : Obligations.CommandsHeldWhileBusy := by
  intro s t hb h
  rcases step_cases h with rfl | ⟨-, -, -, rfl⟩ | ⟨hidle, -⟩
  · exact ⟨rfl, rfl, rfl, rfl, rfl⟩
  · exact ⟨rfl, rfl, rfl, rfl, rfl⟩
  · simp [hb] at hidle

end Sys2Proof.Machine
end

section
/-! PROOFS. Two runs of one command from two states (R15, R16, R20): `Ran.Alike` compares the pieces of a command, and
the pieces built from the transport's primitives run alike from states that look alike to them. -/

namespace Sys2Proof.Machine

/-- Two pieces of a command end alike: both with the same value, both with the same error or both in a hang, in states
that `R` relates. -/
inductive Ran.Alike {α : Type} (R : State → State → Prop) : Ran α → Ran α → Prop
  | done {a : α} {s u : State} : R s u → Alike R (.done a s) (.done a u)
  | raised {e : Status} {s u : State} : R s u → Alike R (.raised e s) (.raised e u)
  | hung {s u : State} : R s u → Alike R (.hung s) (.hung u)

/-- A relation that a read and a release of the handle keep: related states hold alike all that these look at, and each
of their stages takes related states to related ones (R65, R84). -/
structure KeptByReads (R : State → State → Prop) : Prop where
  life : ∀ {s u}, R s u → u.life = s.life
  par : ∀ {s u}, R s u → u.par = s.par
  bus : ∀ {s u}, R s u → u.bus = s.bus
  sent : ∀ {s u}, R s u → R (sent s) (sent u)
  loadResponse : ∀ {s u} rx, R s u → R (loadResponse rx s) (loadResponse rx u)
  closedHandle : ∀ {s u}, R s u → R (closedHandle s) (closedHandle u)

section
variable {α β : Type} {R Q : State → State → Prop} {s u : State}

theorem Ran.Alike.mono {r r' : Ran α} (h : r.Alike R r') (hRQ : ∀ {s u}, R s u → Q s u) : r.Alike Q r' := by
  cases h with
  | done h => exact .done (hRQ h)
  | raised h => exact .raised (hRQ h)
  | hung h => exact .hung (hRQ h)

theorem Ran.Alike.bind {r r' : Ran α} {f : α → State → Ran β} (h : r.Alike R r')
    (hf : ∀ a {s u}, R s u → (f a s).Alike R (f a u)) : (r.bind f).Alike R (r'.bind f) := by
  cases h with
  | done h => exact hf _ h
  | raised h => exact .raised h
  | hung h => exact .hung h

theorem Ran.Alike.final {r r' : Ran Word} (h : r.Alike R r')
    (hend : ∀ x {s u}, R s u → R (endCommand x s) (endCommand x u)) : R r.final r'.final := by
  cases h with
  | done h => exact hend _ h
  | raised h => exact hend _ h
  | hung h => exact h

theorem needsInstance_alike {f : State → Ran Word} (hl : u.life = s.life) (h : R s u) (hf : (f s).Alike R (f u)) :
    (needsInstance s f).Alike R (needsInstance u f) := by
  by_cases hn : s.life = .none
  · rw [needsInstance_none hn, needsInstance_none (hl.trans hn)]; exact .raised h
  · rwa [needsInstance_some hn, needsInstance_some (hl ▸ hn)]

/-! ## The transport's sequences -/

/-- OPEN's bus sequence is steered by the transport's answers alone (R53). -/
theorem openSequence_alike (g : Gain) (hb : u.bus = s.bus) (hopen : R (busOpen s) (busOpen u))
    (hconf : R (configured s) (configured u)) (hclean : R (cleanedUp s) (cleanedUp u))
    (hdone : R (constructed g s) (constructed g u)) : (openSequence g s).Alike R (openSequence g u) := by
  have e0 : nextAck u = nextAck s := by simp [nextAck, hb]
  have e1 : nextAck (busOpen u) = nextAck (busOpen s) := by simp [nextAck, hb]
  have e2 : nextAck (busConfigure (busOpen u)) = nextAck (busConfigure (busOpen s)) := by simp [nextAck, hb]
  simp only [openSequence, e0, e1, e2]
  cases nextAck s with
  | never => exact .hung hopen
  | err => exact .raised hopen
  | ok =>
    cases nextAck (busOpen s) with
    | never => exact .hung hconf
    | ok => exact .done hdone
    | err =>
      cases nextAck (busConfigure (busOpen s)) with
      | never => exact .hung hclean
      | err => exact .raised hclean
      | ok => exact .raised hclean

theorem autoClose_alike (hR : KeptByReads R) (v : Word) (h : R s u) : (autoClose v s).Alike R (autoClose v u) := by
  have hk : nextAck (setLife .closed u) = nextAck (setLife .closed s) := by simp [nextAck, hR.bus h]
  have hc := hR.closedHandle h
  simp only [autoClose, hk]
  cases nextAck (setLife .closed s) with
  | never => exact .hung hc
  | err => exact .raised hc
  | ok => exact .done hc

theorem releaseHandle_alike (hR : KeptByReads R) (h : R s u) : (releaseHandle s).Alike R (releaseHandle u) :=
  autoClose_alike hR 0 h

theorem receive_alike (hR : KeptByReads R) (bytes : List Byte) (h : R s u) :
    (receive bytes s).Alike R (receive bytes u) := by
  unfold receive
  cases Buf7.ofList bytes with
  | none => exact .raised h
  | some rx =>
    have hl := hR.loadResponse rx h
    have hval : (loadResponse rx u).dp.val = (loadResponse rx s).dp.val := by simp [hR.par h]
    simp only [hR.par hl, hval]
    cases (loadResponse rx s).par.autoClose with
    | true => exact autoClose_alike hR _ hl
    | false => exact .done hl

theorem transferAndDecode_alike (hR : KeptByReads R) (h : R s u) :
    (transferAndDecode (loadWaveform s)).Alike R (transferAndDecode (loadWaveform u)) := by
  have hx : nextXfer (loadWaveform u) = nextXfer (loadWaveform s) := by simp [nextXfer, hR.bus h]
  have hs := hR.sent h
  simp only [transferAndDecode, hx]
  cases nextXfer (loadWaveform s) with
  | never => exact .hung hs
  | err => exact .raised hs
  | ok bytes => exact receive_alike hR bytes hs

theorem readCore_alike (hR : KeptByReads R) (h : R s u) : (readCore s).Alike R (readCore u) := by
  simp only [readCore, hR.life h]
  cases s.life with
  | closed => exact .raised h
  | none => exact transferAndDecode_alike hR h
  | opened => exact transferAndDecode_alike hR h

/-! ## Averages -/

theorem avgLoop_alike (hR : KeptByReads R) (hacc : ∀ v {s u}, R s u → R (accumulate v s) (accumulate v u)) (k : Nat)
    (h : R s u) : (avgLoop k s).Alike R (avgLoop k u) := by
  induction k generalizing s u with
  | zero => exact .done h
  | succ k ih =>
    rw [avgLoop_succ, avgLoop_succ]
    exact (readCore_alike hR h).bind fun v _ _ h1 => ih (hacc v h1)

/-- An average looks at the accumulator, so its runs are alike where the relation says the accumulators agree. -/
theorem avgCore_alike (hR : KeptByReads R) (hacc : ∀ v {s u}, R s u → R (accumulate v s) (accumulate v u))
    (heq : ∀ {s u}, R s u → u.dp.acc = s.dp.acc) (n : Nat) (h : R (clearAccumulator s) (clearAccumulator u)) :
    (avgCore n s).Alike R (avgCore n u) := by
  refine (avgLoop_alike hR hacc n h).bind fun _ s1 u1 h1 => ?_
  rw [heq h1]
  split
  · exact .raised h1
  · exact .done h1

end
end Sys2Proof.Machine
end

section
/-! PROOFS. No command reads the transient registers before it writes them (R20, R21). -/

namespace Sys2Proof.Machine

/-- The states differ at most in the transient registers. -/
def SameButTransients (s u : State) : Prop := ∃ d, u = { s with dp := d }

theorem keptByReads_sameButTransients : KeptByReads SameButTransients where
  life := by rintro s _ ⟨d, rfl⟩; rfl
  par := by rintro s _ ⟨d, rfl⟩; rfl
  bus := by rintro s _ ⟨d, rfl⟩; rfl
  sent := by rintro s _ ⟨d, rfl⟩; exact ⟨_, rfl⟩
  loadResponse := by rintro s _ rx ⟨d, rfl⟩; exact ⟨_, rfl⟩
  closedHandle := by rintro s _ ⟨d, rfl⟩; exact ⟨_, rfl⟩

/-- The states differ at most in the transient registers other than `ACC`. -/
def SameButBuffers (s u : State) : Prop := SameButTransients s u ∧ u.dp.acc = s.dp.acc

theorem keptByReads_sameButBuffers : KeptByReads SameButBuffers where
  life h := keptByReads_sameButTransients.life h.1
  par h := keptByReads_sameButTransients.par h.1
  bus h := keptByReads_sameButTransients.bus h.1
  sent h := ⟨keptByReads_sameButTransients.sent h.1, h.2⟩
  loadResponse rx h := ⟨keptByReads_sameButTransients.loadResponse rx h.1, h.2⟩
  closedHandle h := ⟨keptByReads_sameButTransients.closedHandle h.1, h.2⟩

theorem accumulate_sameButBuffers (v : Word) {s u : State} (h : SameButBuffers s u) :
    SameButBuffers (accumulate v s) (accumulate v u) := by
  obtain ⟨⟨d, rfl⟩, hacc⟩ := h
  exact ⟨⟨_, rfl⟩, congrArg (· + sext64 v) hacc⟩

/-- An average clears `ACC` before it reads it (R70), so what it held does not matter. -/
theorem avgCore_transients (n : Nat) {s u : State} (h : SameButTransients s u) :
    (avgCore n s).Alike SameButTransients (avgCore n u) := by
  have hclear : SameButBuffers (clearAccumulator s) (clearAccumulator u) := by
    obtain ⟨d, rfl⟩ := h
    exact ⟨⟨_, rfl⟩, rfl⟩
  exact (avgCore_alike keptByReads_sameButBuffers accumulate_sameButBuffers And.right n hclear).mono And.left

theorem openSequence_transients (g : Gain) {s u : State} (h : SameButTransients s u) :
    (openSequence g s).Alike SameButTransients (openSequence g u) := by
  obtain ⟨d, rfl⟩ := h
  exact openSequence_alike g rfl ⟨d, rfl⟩ ⟨d, rfl⟩ ⟨d, rfl⟩ ⟨d, rfl⟩

theorem final_transients {r r' : Ran Word} (h : r.Alike SameButTransients r') : SameButTransients r.final r'.final :=
  h.final fun _ => by rintro s _ ⟨d, rfl⟩; exact ⟨_, rfl⟩

theorem setOffsetReg_transients (v : Word) {s u : State} (h : SameButTransients s u) :
    SameButTransients (setOffsetReg v s) (setOffsetReg v u) := by
  obtain ⟨d, rfl⟩ := h
  exact ⟨d, rfl⟩

/-- A command that starts with the check of R55 runs alike where its body does. -/
theorem needsInstance_transients {s u : State} {f : State → Ran Word} (h : SameButTransients s u)
    (hf : (f s).Alike SameButTransients (f u)) :
    SameButTransients (needsInstance s f).final (needsInstance u f).final :=
  final_transients (needsInstance_alike (keptByReads_sameButTransients.life h) h hf)

theorem execOpen_transients {tag : BitVec 2} {s u s' u' : State} (h : SameButTransients s u)
    (hs : exec (.openBus tag) s = .next s') (hu : exec (.openBus tag) u = .next u') : SameButTransients s' u' := by
  cases hs; cases hu
  refine final_transients ?_
  rw [keptByReads_sameButTransients.life h]
  cases Gain.ofTag tag with
  | none => exact .raised h
  | some g =>
    cases s.life with
    | opened => exact .raised h
    | none => exact openSequence_transients g h
    | closed => exact openSequence_transients g h

theorem execClose_transients {s u s' u' : State} (h : SameButTransients s u) (hs : exec .close s = .next s')
    (hu : exec .close u = .next u') : SameButTransients s' u' := by
  cases hs; cases hu
  refine final_transients ?_
  rw [keptByReads_sameButTransients.life h]
  cases s.life with
  | none => exact .raised h
  | closed => exact .done h
  | opened => exact releaseHandle_alike keptByReads_sameButTransients h

theorem exec_transients {i : Instr} {s u s' u' : State} (h : SameButTransients s u) (hs : exec i s = .next s')
    (hu : exec i u = .next u') : SameButTransients s' u' := by
  have hR := keptByReads_sameButTransients
  cases i with
  | openBus tag => exact execOpen_transients h hs hu
  | close => exact execClose_transients h hs hu
  | setGain tag =>
    cases hs; cases hu
    obtain ⟨d, rfl⟩ := h
    refine final_transients ?_
    cases Gain.ofTag tag with
    | none => exact .raised ⟨d, rfl⟩
    | some g => exact needsInstance_alike rfl ⟨d, rfl⟩ (.done ⟨d, rfl⟩)
  | setOffset value =>
    cases hs; cases hu
    exact needsInstance_transients h (.done (setOffsetReg_transients value h))
  | getOffset =>
    cases hs; cases hu
    obtain ⟨d, rfl⟩ := h
    exact needsInstance_transients ⟨d, rfl⟩ (.done ⟨d, rfl⟩)
  | read => cases hs; cases hu; exact needsInstance_transients h (readCore_alike hR h)
  | readNet =>
    cases hs; cases hu
    refine needsInstance_transients h ((readCore_alike hR h).bind fun v s1 u1 h1 => ?_)
    obtain ⟨d, rfl⟩ := h1
    exact .done ⟨d, rfl⟩
  | readAvg times =>
    cases hs; cases hu
    exact needsInstance_transients h ((avgCore_transients _ h).bind fun _ _ _ h1 => .done h1)
  | tare times =>
    cases hs; cases hu
    exact needsInstance_transients h
      ((avgCore_transients _ h).bind fun _ _ _ h1 => .done (setOffsetReg_transients _ h1))
  | isReady => cases hs; cases hu; exact needsInstance_transients h (.done h)
  | powerDown => cases hs; cases hu; exact needsInstance_transients h (.done h)
  | powerUp => cases hs; cases hu; exact needsInstance_transients h (.done h)

/-- Settles O57: runs from states that differ in the transient registers end in such states. -/
theorem transientsNotRead : Obligations.TransientsNotRead := by
  intro i s t u d hs hu
  obtain ⟨d', rfl⟩ := exec_transients ⟨d, rfl⟩ hs hu
  exact ⟨rfl, rfl, rfl, rfl⟩

end Sys2Proof.Machine
end

section
/-! PROOFS. In `NONE` no command can tell what `GAIN_SEL` and `OFFSET` hold (R15, R16): all but OPEN are refused, and
OPEN writes both before it leaves `NONE`. -/

namespace Sys2Proof.Machine

/-- The states differ at most in `GAIN_SEL` and `OFFSET`, and not even in these outside `NONE`. -/
def SameButUnwritten (s u : State) : Prop :=
  (∃ g o, u = { s with gainSel := g, offset := o }) ∧ (s.life ≠ .none → u = s)

theorem sameButUnwritten_of_none {s : State} (h : s.life = .none) (g : Gain) (o : Word) :
    SameButUnwritten s { s with gainSel := g, offset := o } := ⟨⟨g, o, rfl⟩, absurd h⟩

theorem endCommand_unwritten (r : Response) {s u : State} (h : SameButUnwritten s u) :
    SameButUnwritten (endCommand r s) (endCommand r u) := by
  obtain ⟨⟨g, o, rfl⟩, hsame⟩ := h
  exact ⟨⟨g, o, rfl⟩, fun hl => congrArg (endCommand r) (hsame hl)⟩

/-- A successful OPEN writes both registers, and its other ends leave `LIFE = NONE` (R53). -/
theorem openSequence_unwritten (g : Gain) {s u : State} (h : SameButUnwritten s u) (hl : s.life = .none) :
    (openSequence g s).Alike SameButUnwritten (openSequence g u) := by
  obtain ⟨⟨g₀, o₀, rfl⟩, -⟩ := h
  exact openSequence_alike g rfl (sameButUnwritten_of_none (s := busOpen s) hl g₀ o₀)
    (sameButUnwritten_of_none (s := configured s) hl g₀ o₀) (sameButUnwritten_of_none (s := cleanedUp s) hl g₀ o₀)
    ⟨⟨g, 0, rfl⟩, fun _ => rfl⟩

/-- Which error a command other than OPEN answers in `NONE` depends on the command alone (R55, R57, R94). -/
theorem exec_unbuilt {i : Instr} (hi : isOpenCmd i = false) :
    ∃ e, ∀ s, s.life = .none → exec i s = .next (raise e s) := by
  cases i with
  | openBus tag => cases hi
  | setGain tag =>
    cases hg : Gain.ofTag tag with
    | none => exact ⟨.illegalCmd, fun s _ => by simp [exec, execSetGain, hg]⟩
    | some g => exact ⟨.illegalState, fun s hl => by simp [exec, execSetGain, hg, hl]⟩
  | read => exact ⟨.illegalState, fun s hl => by simp [exec, execRead, hl]⟩
  | readAvg times => exact ⟨.illegalState, fun s hl => by simp [exec, execReadAvg, hl]⟩
  | tare times => exact ⟨.illegalState, fun s hl => by simp [exec, execTare, hl]⟩
  | setOffset value => exact ⟨.illegalState, fun s hl => by simp [exec, execSetOffset, hl]⟩
  | getOffset => exact ⟨.illegalState, fun s hl => by simp [exec, execGetOffset, hl]⟩
  | isReady => exact ⟨.illegalState, fun s hl => by simp [exec, execIsReady, hl]⟩
  | powerDown => exact ⟨.illegalState, fun s hl => by simp [exec, execPowerDown, hl]⟩
  | powerUp => exact ⟨.illegalState, fun s hl => by simp [exec, execPowerUp, hl]⟩
  | close => exact ⟨.illegalState, fun s hl => by simp [exec, execClose, hl]⟩
  | readNet => exact ⟨.illegalState, fun s hl => by simp [exec, execReadNet, hl]⟩

theorem exec_unwritten {i : Instr} {s u s' u' : State} (h : SameButUnwritten s u) (hl : s.life = .none)
    (hlu : u.life = .none) (hs : exec i s = .next s') (hu : exec i u = .next u') : SameButUnwritten s' u' := by
  cases hi : isOpenCmd i with
  | false =>
    obtain ⟨e, he⟩ := exec_unbuilt hi
    rw [he s hl] at hs
    rw [he u hlu] at hu
    cases hs; cases hu
    exact endCommand_unwritten _ h
  | true =>
    cases i with
    | openBus tag =>
      cases hs; cases hu
      refine Ran.Alike.final ?_ endCommand_unwritten
      rw [hl, hlu]
      cases Gain.ofTag tag with
      | none => exact .raised h
      | some g => exact openSequence_unwritten g h hl
    | _ => cases hi

/-- Settles O58: the runs end in states that are the same once OPEN has written both registers. -/
theorem unwrittenRegistersUnobservable : Obligations.UnwrittenRegistersUnobservable := by
  intro i s t u g o hl ht hu
  obtain ⟨⟨g', o', rfl⟩, hsame⟩ := exec_unwritten (sameButUnwritten_of_none hl g o) hl hl ht hu
  exact ⟨rfl, rfl, rfl, rfl, fun h => congrArg State.arch (hsame h)⟩

end Sys2Proof.Machine
end

section
/-! PROOFS. The count of commands (R36 (4)): a word presented becomes the running command, and the running command a
response taken. -/

namespace Sys2Proof.Machine

/-- Words on the port, the running command and responses taken, counted together. -/
def commandCount (s : State) : Nat := s.cmds.length + s.busy.toNat + s.responses.length

theorem commandCount_takeResponse {s : State} (hb : s.busy = true) :
    commandCount (takeResponse s) = commandCount s := by
  simp only [commandCount, takeResponse_cmds, takeResponse_busy, takeResponse_responses, hb, List.length_append,
    List.length_singleton, Bool.toNat_true, Bool.toNat_false]
  omega

theorem commandCount_accept {s : State} {w : CmdWord} {rest : List CmdWord} (hb : s.busy = false)
    (hc : s.cmds = w :: rest) : commandCount (accept s) = commandCount s := by
  simp [commandCount, hb, hc]

theorem exec_responses {i : Instr} {s t : State} (h : exec i s = .next t) : t.responses = s.responses :=
  congrArg Arch.responses (exec_frame h)

/-- A command runs between its acceptance and its answer: it moves no count (R13). -/
theorem commandCount_exec {i : Instr} {s t : State} (h : exec i s = .next t) : commandCount t = commandCount s := by
  have hcmds : t.cmds = s.cmds := congrArg Arch.cmds (exec_frame h)
  have hbusy : t.busy = s.busy := congrArg Arch.busy (exec_frame h)
  rw [commandCount, hcmds, hbusy, exec_responses h, commandCount]

/-- Settles O17: the two handshakes and the command between them keep the count, and only the handshake of the response
port lists a response. -/
theorem oneResponsePerCommand : Obligations.OneResponsePerCommand := by
  intro s t h
  change commandCount t = commandCount s ∧ _
  rcases step_cases h with rfl | ⟨hb, -, -, rfl⟩ | ⟨hb, w, rest, hc, ⟨i, -, he⟩ | ⟨r, -, rfl⟩⟩
  · exact ⟨rfl, .inl rfl⟩
  · exact ⟨commandCount_takeResponse hb, .inr rfl⟩
  · exact ⟨(commandCount_exec he).trans (commandCount_accept hb hc),
      .inl ((exec_responses he).trans (accept_responses s))⟩
  · exact ⟨commandCount_accept hb hc, .inl rfl⟩

end Sys2Proof.Machine
end

section
/-! PROOFS. The transport port only moves on (R27 (b), R36 (2)): each piece of a command adds transactions at the end of
the trace, one answer for each. -/

namespace Sys2Proof.Machine

/-- From `s` to `t` some list of transactions was issued, perhaps the empty one. -/
def PortAdvances (s t : State) : Prop := ∃ es, Issued s t es

theorem PortAdvances.of_bus_eq {s t : State} (h : t.bus = s.bus) : PortAdvances s t := ⟨[], issued_nil h⟩

theorem PortAdvances.trans {s t u : State} (h : PortAdvances s t) (h' : PortAdvances t u) : PortAdvances s u := by
  obtain ⟨es, h⟩ := h
  obtain ⟨fs, h'⟩ := h'
  exact ⟨es ++ fs, h.trans h'⟩

theorem final_bus (r : Ran Word) : r.final.bus = r.state.bus := by
  cases r <;> rfl

theorem PortAdvances.final {s : State} {r : Ran Word} (h : PortAdvances s r.state) : PortAdvances s r.final :=
  h.trans (.of_bus_eq (final_bus r))

theorem PortAdvances.of_needsInstance {s : State} {f : State → Ran Word} (h : PortAdvances s (f s).state) :
    PortAdvances s (needsInstance s f).state := by
  by_cases hl : s.life = .none
  · rw [needsInstance_none hl]; exact .of_bus_eq rfl
  · rwa [needsInstance_some hl]

/-- What follows a piece of a command without using the port leaves what the piece issued. -/
theorem PortAdvances.bind {α β : Type} {s : State} {r : Ran α} {f : α → State → Ran β} (h : PortAdvances s r.state)
    (hf : ∀ a t, (f a t).state.bus = t.bus) : PortAdvances s (r.bind f).state := by
  refine state_bind r f h fun a t he => ?_
  rw [he] at h
  exact h.trans (.of_bus_eq (hf a t))

theorem openSequence_advances (g : Gain) (s : State) : PortAdvances s (openSequence g s).state := by
  rcases openSequence_cases g s with ⟨-, e⟩ | ⟨-, e⟩ | ⟨-, ⟨-, e⟩ | ⟨-, -, e⟩ | ⟨-, -, e⟩ | ⟨-, e⟩⟩ <;> rw [e]
  · exact ⟨_, issued_busOpen s⟩
  · exact ⟨_, issued_busOpen s⟩
  · exact ⟨_, issued_configured s⟩
  · exact ⟨_, issued_cleanedUp s⟩
  · exact ⟨_, issued_cleanedUp s⟩
  · exact ⟨_, issued_constructed g s⟩

theorem releaseHandle_advances (s : State) : PortAdvances s (releaseHandle s).state := by
  rcases releaseHandle_cases s with ⟨-, e⟩ | ⟨-, e⟩ | ⟨-, e⟩ <;> rw [e] <;> exact ⟨_, issued_closedHandle s⟩

theorem readCore_advances (s : State) : PortAdvances s (readCore s).state := by
  rcases readCore_cases s with ⟨-, e⟩ | ⟨-, ⟨-, e⟩ | ⟨-, e⟩ | ⟨l, -, -, e⟩ |
    ⟨rx, -, ⟨-, e⟩ | ⟨-, ⟨-, e⟩ | ⟨-, e⟩ | ⟨-, e⟩⟩⟩⟩ <;> rw [e]
  · exact .of_bus_eq rfl
  · exact ⟨_, issued_sent s⟩
  · exact ⟨_, issued_sent s⟩
  · exact ⟨_, issued_sent s⟩
  · exact ⟨_, issued_received rx s⟩
  all_goals exact ⟨_, issued_autoClosed rx s⟩

theorem avgCore_advances (n : Nat) (s : State) : PortAdvances s (avgCore n s).state := by
  have hloop : PortAdvances s (avgLoop n (clearAccumulator s)).state :=
    avgLoop_keeps (P := PortAdvances s) (fun t h => h.trans (readCore_advances t)) (fun _ _ h => h) n _ (.of_bus_eq rfl)
  refine hloop.bind fun _ t => ?_
  split <;> rfl

/-- Every command, however it ends, only adds to the transactions (R36 (2)). -/
theorem exec_advances {i : Instr} {s t : State} (h : exec i s = .next t) : PortAdvances s t := by
  cases i with
  | openBus tag =>
    rcases execOpen_cases tag s with ⟨-, e⟩ | ⟨g, -, ⟨-, e⟩ | ⟨-, e⟩⟩ <;> rw [e] at h <;> cases h
    · exact .of_bus_eq rfl
    · exact .of_bus_eq rfl
    · exact (openSequence_advances g s).final
  | close =>
    cases h
    refine .final ?_
    cases s.life with
    | none => exact .of_bus_eq rfl
    | closed => exact .of_bus_eq rfl
    | opened => exact releaseHandle_advances s
  | setGain tag =>
    cases h
    refine .final ?_
    cases Gain.ofTag tag with
    | none => exact .of_bus_eq rfl
    | some g => exact .of_needsInstance (.of_bus_eq rfl)
  | read => cases h; exact .final (.of_needsInstance (readCore_advances s))
  | readNet => cases h; exact .final (.of_needsInstance ((readCore_advances s).bind fun _ _ => rfl))
  | readAvg times => cases h; exact .final (.of_needsInstance ((avgCore_advances _ s).bind fun _ _ => rfl))
  | tare times => cases h; exact .final (.of_needsInstance ((avgCore_advances _ s).bind fun _ _ => rfl))
  | setOffset value => cases h; exact .final (.of_needsInstance (.of_bus_eq rfl))
  | getOffset => cases h; exact .final (.of_needsInstance (.of_bus_eq rfl))
  | isReady => cases h; exact .final (.of_needsInstance (.of_bus_eq rfl))
  | powerDown => cases h; exact .final (.of_needsInstance (.of_bus_eq rfl))
  | powerUp => cases h; exact .final (.of_needsInstance (.of_bus_eq rfl))

/-- Settles O18: the handshakes leave the port as it is, and a command only adds to its transactions. -/
theorem transactionsOnlyAppend : Obligations.TransactionsOnlyAppend := by
  intro s t h
  rcases step_cases h with rfl | ⟨-, -, -, rfl⟩ | ⟨-, w, rest, -, ⟨i, -, he⟩ | ⟨r, -, rfl⟩⟩
  · exact ⟨[], issued_nil rfl⟩
  · exact ⟨[], issued_nil (takeResponse_bus s)⟩
  · obtain ⟨es, hes⟩ := exec_advances he
    exact ⟨es, hes.from_bus (accept_bus s).symm⟩
  · exact ⟨[], issued_nil rfl⟩

end Sys2Proof.Machine
end

section
/-! PROOFS. The command word (R40 to R44, R47, R48): the opcode map and the encoder undo one another on the bits a
command reads, and the words the map refuses are those R44 lists. -/

namespace Sys2Proof

/-! ## The gain argument (R42, R44) -/

theorem decodeGainArg_setWidth (mk : BitVec 2 → Instr) {tag : BitVec 2} (h : gainTagLegal tag = true) :
    decodeGainArg mk (tag.setWidth 32) = .instr (mk tag) := by
  have htag : tag ≠ 3 := by simpa [gainTagLegal] using h
  rw [decodeGainArg, argReserved_setWidth, argTag_setWidth, if_neg (by simp), if_neg htag]

/-- A gain argument that decodes is a legal tag and nothing else. -/
theorem decodeGainArg_instr {mk : BitVec 2 → Instr} {arg : Word} {i : Instr} (h : decodeGainArg mk arg = .instr i) :
    ∃ tag, gainTagLegal tag = true ∧ arg = tag.setWidth 32 ∧ i = mk tag := by
  unfold decodeGainArg at h
  split at h
  next => cases h
  next hr =>
    split at h
    next => cases h
    next htag =>
      cases h
      exact ⟨argTag arg, by simpa [gainTagLegal] using htag, (setWidth_argTag (not_not.1 hr)).symm, rfl⟩

theorem decodeGainArg_illegal_iff (mk : BitVec 2 → Instr) (arg : Word) :
    (∃ r, decodeGainArg mk arg = .illegal r) ↔ argTag arg = 3 ∨ argReserved arg ≠ 0 := by
  unfold decodeGainArg
  split
  next hr => exact ⟨fun _ => .inr hr, fun _ => ⟨_, rfl⟩⟩
  next hr =>
    split
    next htag => exact ⟨fun _ => .inl htag, fun _ => ⟨_, rfl⟩⟩
    next htag => simp only [reduceCtorEq, exists_false, htag, hr, or_self]

/-! ## The opcode map (R41) -/

theorem decodeFields_opcode_arg {i : Instr} (h : i.wf = true) : decodeFields i.opcode i.arg = .instr i := by
  cases i with
  | openBus tag => exact decodeGainArg_setWidth .openBus h
  | setGain tag => exact decodeGainArg_setWidth .setGain h
  | _ => rfl

/-- The fields `op` and `arg` are those of `i` wherever its care mask looks: either the mask keeps the whole word, or it
keeps the opcode alone, for a command whose argument R42 says is not read. -/
def Instr.Matches (i : Instr) (op : BitVec 4) (arg : Word) : Prop :=
  op = i.opcode ∧ ((i.careMask = 0xFFFFFFFFF#36 ∧ arg = i.arg) ∨ (i.careMask = 0xF00000000#36 ∧ i.arg = 0))

theorem Instr.Matches.encode_eq {i : Instr} {op : BitVec 4} {arg : Word} (h : i.Matches op arg) :
    encode i = (op ++ arg) &&& i.careMask := by
  obtain ⟨rfl, ⟨hmask, rfl⟩ | ⟨hmask, harg⟩⟩ := h
  · rw [hmask]
    exact BitVec.and_allOnes.symm
  · rw [hmask, Laws.TableRow.opcode_mask, encode, harg]

/-- What the opcode map answers is well-formed and matches the fields it was read from (R41, R42). -/
theorem decodeFields_instr {op : BitVec 4} {arg : Word} {i : Instr} (h : decodeFields op arg = .instr i) :
    i.wf = true ∧ i.Matches op arg := by
  unfold decodeFields at h
  split at h
  case h_1 | h_2 => -- OPEN, SET_GAIN
    obtain ⟨tag, htag, rfl, rfl⟩ := decodeGainArg_instr h
    exact ⟨htag, rfl, .inl ⟨rfl, rfl⟩⟩
  case h_4 | h_5 | h_6 => -- READ_AVG, TARE, SET_OFFSET
    cases h
    exact ⟨rfl, rfl, .inl ⟨rfl, rfl⟩⟩
  case h_13 => cases h -- reserved opcodes
  all_goals cases h; exact ⟨rfl, rfl, .inr ⟨rfl, rfl⟩⟩

/-- The opcode map refuses exactly what R44 lists. -/
theorem decodeFields_illegal_iff (op : BitVec 4) (arg : Word) :
    (∃ r, decodeFields op arg = .illegal r) ↔
      op ∈ [0x0#4, 0xD#4, 0xE#4, 0xF#4] ∨ (op ∈ [0x1#4, 0x2#4] ∧ (argTag arg = 3 ∨ argReserved arg ≠ 0)) := by
  unfold decodeFields
  split
  case h_1 | h_2 => -- OPEN, SET_GAIN
    simp [decodeGainArg_illegal_iff]
  case h_13 => -- reserved opcodes
    have hop : op ∈ [0x0#4, 0xD#4, 0xE#4, 0xF#4] := by revert op; decide
    exact ⟨fun _ => .inl hop, fun _ => ⟨_, rfl⟩⟩
  all_goals simp

/-! ## The whole word (R40, R44) -/

theorem argTag_argField (w : CmdWord) : argTag (argField w) = w.extractLsb' 0 2 :=
  BitVec.extractLsb'_extractLsb'_of_le (by decide)

theorem argReserved_argField (w : CmdWord) : argReserved (argField w) = w.extractLsb' 2 30 :=
  BitVec.extractLsb'_extractLsb'_of_le (by decide)

theorem illegalWord_iff_decode (w : CmdWord) : Machine.illegalWord w ↔ ∃ r, decode w = .illegal r := by
  rw [decode, decodeFields_illegal_iff, argTag_argField, argReserved_argField]
  rfl

end Sys2Proof

namespace Sys2Proof.Machine

/-- Settles O5: the decoder reads back the two fields the encoder writes. -/
theorem decodeOfEncode : Obligations.DecodeOfEncode := by
  intro i h
  rw [encode, decode_append, decodeFields_opcode_arg h]

theorem decode_of_encode_eq {w : CmdWord} {i : Instr} (hw : encode i = w) (h : i.wf = true) :
    decode w = .instr i := hw ▸ decodeOfEncode i h

/-- Settles O6: the command matches the two fields of its word. -/
theorem encodeOfDecode : Obligations.EncodeOfDecode := by
  intro w i h
  obtain ⟨hwf, hmatch⟩ := decodeFields_instr h
  exact ⟨hwf, by rw [hmatch.encode_eq, fields_append]⟩

theorem accept_arch {s : State} {w : CmdWord} {rest : List CmdWord} (hc : s.cmds = w :: rest) :
    (accept s).arch = { s.arch with busy := true, cmds := rest } := by
  simp [State.arch, hc]

/-- Settles O7: R44's words are those the opcode map refuses, and the step refuses them as soon as it accepts them. -/
theorem illegalWordsRefused : Obligations.IllegalWordsRefused := by
  intro w
  refine ⟨illegalWord_iff_decode w, fun s rest hw hb hc => ?_⟩
  obtain ⟨r, hr⟩ := (illegalWord_iff_decode w).1 hw
  exact ⟨raise .illegalCmd (accept s), by rw [step_accept hb hc, runWord_illegal hr], ⟨rfl, rfl⟩, accept_arch hc, rfl⟩

/-- Settles O2: the table of R43, row by row, and the tag of each variant. -/
theorem gainTags : Obligations.GainTags := by
  have hround : ∀ g : Gain, Gain.ofTag g.tag = some g := by
    intro g
    cases g <;> rfl
  exact ⟨rfl, rfl, rfl, rfl, hround, rfl, rfl, rfl, rfl, rfl, rfl⟩

/-- Settles O8: at these seven opcodes the map does not read the argument. -/
theorem ignoredArgumentsAccepted : Obligations.IgnoredArgumentsAccepted := by
  intro arg
  simp only [decode_append]
  exact ⟨rfl, rfl, rfl, rfl, rfl, rfl, rfl⟩

/-- Settles O9: each of the twelve words is the encoding of its command. -/
theorem specWordsDecode : Obligations.SpecWordsDecode := by
  refine ⟨decode_of_encode_eq ?_ rfl, decode_of_encode_eq ?_ rfl, decode_of_encode_eq ?_ rfl,
    decode_of_encode_eq ?_ rfl, decode_of_encode_eq ?_ rfl, decode_of_encode_eq ?_ rfl,
    decode_of_encode_eq ?_ rfl, decode_of_encode_eq ?_ rfl, decode_of_encode_eq ?_ rfl,
    decode_of_encode_eq ?_ rfl, decode_of_encode_eq ?_ rfl, decode_of_encode_eq ?_ rfl⟩ <;> decide

/-- Settles O10: closed lines, evaluated by the assembler. -/
theorem assemblyExamples : Obligations.AssemblyExamples := by
  unfold Obligations.AssemblyExamples
  decide

/-- Settles O11: an accepted word is run as the command it decodes to. -/
theorem stepRunsDecodedCommand : Obligations.StepRunsDecodedCommand := by
  intro s w rest i hb hc hd
  rw [step_accept hb hc, runWord_instr hd, accept, hc, List.tail_cons]

/-- Settles O13: the two handshakes of the response port. -/
theorem responseHeldUntilTaken : Obligations.ResponseHeldUntilTaken := by
  intro s hb hv
  exact ⟨fun hr => step_wait hb fun _ => hr,
    fun hr => ⟨takeResponse s, step_take hb hv hr, rfl, rfl, rfl, rfl, rfl, rfl⟩⟩

end Sys2Proof.Machine
end

section
/-! PROOFS. OPEN (R53, R54): the refusals before any transaction, an equation for each way its bus sequence ends, and
what a failed OPEN leaves. -/

namespace Sys2Proof.Machine

/-! ## Refusals before any transaction (R44, R55) -/

/-- A word whose gain argument is not zero above the tag is refused (R44 (3)). -/
theorem runWord_reservedArgBits {op : BitVec 4} {mk : BitVec 2 → Instr} {arg : Word}
    (hop : decodeFields op arg = decodeGainArg mk arg) (h : argReserved arg ≠ 0) (s : State) :
    runWord (op ++ arg) s = .next (raise .illegalCmd s) :=
  runWord_illegal (r := .reservedArgBits) (by rw [decode_append, hop, decodeGainArg, if_pos h]) s

/-- The legal tags are those with a variant (R43, R44 (2)). -/
theorem ofTag_isSome (tag : BitVec 2) : (Gain.ofTag tag).isSome = gainTagLegal tag := by
  revert tag
  decide

/-- In `NONE` every well-formed command but OPEN ends at the instance check (R55). -/
theorem exec_of_none {i : Instr} {s : State} (hwf : i.wf = true) (hi : isOpenCmd i = false) (hl : s.life = .none) :
    exec i s = .next (raise .illegalState s) := by
  cases i with
  | openBus tag => cases hi
  | setGain tag =>
    obtain ⟨g, hg⟩ := Option.isSome_iff_exists.1 ((ofTag_isSome tag).trans hwf)
    simp [exec, execSetGain, hg, hl]
  | close => simp [exec, execClose, hl]
  | _ => exact congrArg finish (needsInstance_none hl _)

theorem execOpen_of_opened {tag : BitVec 2} {g : Gain} {s : State} (hg : Gain.ofTag tag = some g)
    (hl : s.life = .opened) : exec (.openBus tag) s = .next (raise .illegalState s) := by
  simp [exec, execOpen, hg, hl]

/-! ## OPEN's bus sequence, by the transport's answers (R53) -/

section
variable {s : State}

theorem openSequence_openUnanswered (g : Gain) (h0 : s.bus.ackAt 0 = .never) :
    openSequence g s = .hung (busOpen s) := by
  simp [openSequence, nextAck, h0]

theorem openSequence_openFails (g : Gain) (h0 : s.bus.ackAt 0 = .err) :
    openSequence g s = .raised .ioOpen (busOpen s) := by
  simp [openSequence, nextAck, h0]

theorem openSequence_configureUnanswered (g : Gain) (h0 : s.bus.ackAt 0 = .ok) (h1 : s.bus.ackAt 1 = .never) :
    openSequence g s = .hung (configured s) := by
  simp [openSequence, configured, nextAck, h0, h1]

theorem openSequence_cleanupUnanswered (g : Gain) (h0 : s.bus.ackAt 0 = .ok) (h1 : s.bus.ackAt 1 = .err)
    (h2 : s.bus.ackAt 2 = .never) : openSequence g s = .hung (cleanedUp s) := by
  simp [openSequence, cleanedUp, configured, nextAck, h0, h1, h2]

theorem openSequence_configureFails (g : Gain) (h0 : s.bus.ackAt 0 = .ok) (h1 : s.bus.ackAt 1 = .err)
    (h2 : s.bus.ackAt 2 ≠ .never) : openSequence g s = .raised .ioConfig (cleanedUp s) := by
  cases ha : s.bus.ackAt 2 with
  | never => exact absurd ha h2
  | err => simp [openSequence, cleanedUp, configured, nextAck, h0, h1, ha]
  | ok => simp [openSequence, cleanedUp, configured, nextAck, h0, h1, ha]

theorem openSequence_constructs (g : Gain) (h0 : s.bus.ackAt 0 = .ok) (h1 : s.bus.ackAt 1 = .ok) :
    openSequence g s = .done 0 (constructed g s) := by
  simp [openSequence, constructed, configured, nextAck, h0, h1]

/-- OPEN past its checks ends as its bus sequence does. -/
theorem execOpen_of_sequence {tag : BitVec 2} {g : Gain} {r : Ran Word} (hg : Gain.ofTag tag = some g)
    (hl : s.life ≠ .opened) (h : openSequence g s = r) : exec (.openBus tag) s = .next r.final := by
  rcases execOpen_cases tag s with ⟨hn, -⟩ | ⟨g', hg', ⟨ho, -⟩ | ⟨-, e⟩⟩
  · simp [hg] at hn
  · exact absurd ho hl
  · rw [hg] at hg'
    cases hg'
    rw [e, h]

end

/-- Settles O22: the two refusals of R44, the instance check, and the bus sequence by its answers. -/
theorem openOutcomes : Obligations.OpenOutcomes := by
  refine ⟨fun s arg h => ⟨_, runWord_reservedArgBits (mk := .openBus) rfl h s, ⟨rfl, rfl⟩, rfl, rfl⟩,
    fun s tag => ⟨?_, fun g hg => ⟨fun hl => ⟨_, execOpen_of_opened hg hl, ⟨rfl, rfl⟩, rfl, rfl⟩, fun hl => ?_⟩⟩⟩
  · rintro rfl
    exact ⟨_, rfl, ⟨rfl, rfl⟩, rfl, rfl⟩
  have hopen := issued_busOpen s
  have hconf := issued_configured s
  have hclean := issued_cleanedUp s
  refine ⟨fun h0 => ?_, fun h0 h1 h2 => ?_, fun h0 h1 => ?_, fun h0 => ?_, fun h0 h1 => ?_, fun h0 h1 h2 => ?_⟩
  · rw [nextAck, h0] at hopen
    exact ⟨_, execOpen_of_sequence hg hl (openSequence_openFails g h0), ⟨rfl, rfl⟩, busOpen_arch s, hopen.of_bus rfl⟩
  · rw [h0, h1] at hclean
    exact ⟨_, execOpen_of_sequence hg hl (openSequence_configureFails g h0 h1 h2), ⟨rfl, rfl⟩, cleanedUp_arch s,
      hclean.of_bus rfl⟩
  · rw [h0, h1] at hconf
    exact ⟨_, execOpen_of_sequence hg hl (openSequence_constructs g h0 h1), ⟨rfl, rfl⟩, constructed_arch g s,
      hconf.of_bus rfl⟩
  · rw [nextAck, h0] at hopen
    exact ⟨_, execOpen_of_sequence hg hl (openSequence_openUnanswered g h0), ⟨rfl, rfl⟩, busOpen_arch s, hopen⟩
  · rw [h0, h1] at hconf
    exact ⟨_, execOpen_of_sequence hg hl (openSequence_configureUnanswered g h0 h1), ⟨rfl, rfl⟩, configured_arch s,
      hconf⟩
  · rw [h0, h1, h2] at hclean
    exact ⟨_, execOpen_of_sequence hg hl (openSequence_cleanupUnanswered g h0 h1 h2), ⟨rfl, rfl⟩, cleanedUp_arch s,
      hclean⟩

/-! ## A failed OPEN (R54) -/

/-- The three ways an OPEN ends in an error: at a check, at its open, or at its configure. -/
theorem execOpen_fails {tag : BitVec 2} {s t : State} (hs : s.rspValid = false)
    (h : exec (.openBus tag) s = .next t) (ht : t.rspValid = true) (he : t.rsp.err ≠ .ok) :
    (∃ e, (e = .illegalCmd ∨ e = .illegalState) ∧ t = raise e s) ∨
    (s.bus.ackAt 0 = .err ∧ t = raise .ioOpen (busOpen s)) ∨
    (s.bus.ackAt 0 = .ok ∧ s.bus.ackAt 1 = .err ∧ t = raise .ioConfig (cleanedUp s)) := by
  have hwait : s.rspValid ≠ true := by simp [hs]
  rcases execOpen_cases tag s with ⟨-, e⟩ | ⟨g, -, ⟨-, e⟩ | ⟨-, e⟩⟩ <;> rw [e] at h <;> cases h
  · exact .inl ⟨_, .inl rfl, rfl⟩
  · exact .inl ⟨_, .inr rfl, rfl⟩
  rcases openSequence_cases g s with ⟨-, e⟩ | ⟨h0, e⟩ | ⟨h0, ⟨-, e⟩ | ⟨-, -, e⟩ | ⟨h1, -, e⟩ | ⟨-, e⟩⟩ <;>
    rw [e] at ht he ⊢
  · exact absurd ht hwait
  · exact .inr (.inl ⟨h0, rfl⟩)
  · exact absurd ht hwait
  · exact absurd ht hwait
  · exact .inr (.inr ⟨h0, h1, rfl⟩)
  · exact absurd rfl he

/-- Settles O23: no transaction, a failed open alone, or an open, a failed configure and one close. -/
theorem openFailureLaw : Obligations.OpenFailureLaw := by
  intro tag s t hs h ht he
  rcases execOpen_fails hs h ht he with ⟨e, hcode, rfl⟩ | ⟨h0, rfl⟩ | ⟨h0, h1, rfl⟩
  · refine ⟨rfl, ?_, [], issued_nil rfl, rfl, ?_⟩ <;> rcases hcode with rfl | rfl <;> simp
  · have hi := issued_busOpen s
    rw [nextAck, h0] at hi
    refine ⟨busOpen_arch s, by simp, _, hi.of_bus rfl, rfl, ?_⟩
    simp [BusEvent.isClose]
  · have hi := issued_cleanedUp s
    rw [h0, h1] at hi
    refine ⟨cleanedUp_arch s, by simp, _, hi.of_bus rfl, rfl, ?_⟩
    simp [BusEvent.isClose]

end Sys2Proof.Machine
end

section
/-! PROOFS. Only OPEN constructs (R55): what the other commands do to the transport port, none of it a configure, and
the one way OPEN reaches `LIFE = OPEN`. -/

namespace Sys2Proof.Machine

/-! ## The configures on the port -/

/-- The configures among all transactions of the port. -/
def configureCount (b : Bus) : Nat := b.trace.countP BusEvent.isConfigure

theorem configureCount_takeXfer (b : Bus) (tx : Buf7) : configureCount (b.takeXfer tx) = configureCount b := by
  simp [configureCount, BusEvent.isConfigure]

theorem configureCount_takeAck_busClose (b : Bus) : configureCount (b.takeAck .busClose) = configureCount b := by
  simp [configureCount, BusEvent.isConfigure]

theorem configureCount_readCore (s : State) : configureCount (readCore s).state.bus = configureCount s.bus := by
  have hsent : configureCount (sent s).bus = configureCount s.bus := configureCount_takeXfer s.bus _
  rcases readCore_cases s with ⟨-, e⟩ | ⟨-, ⟨-, e⟩ | ⟨-, e⟩ | ⟨l, -, -, e⟩ |
    ⟨rx, -, ⟨-, e⟩ | ⟨-, ⟨-, e⟩ | ⟨-, e⟩ | ⟨-, e⟩⟩⟩⟩ <;> rw [e]
  · rfl
  · exact hsent
  · exact hsent
  · exact hsent
  · exact hsent
  all_goals exact (configureCount_takeAck_busClose _).trans hsent

theorem configureCount_avgCore (n : Nat) (s : State) :
    configureCount (avgCore n s).state.bus = configureCount s.bus := by
  have hloop : configureCount (avgLoop n (clearAccumulator s)).state.bus = configureCount s.bus :=
    avgLoop_keeps (P := fun t => configureCount t.bus = configureCount s.bus)
      (fun t h => (configureCount_readCore t).trans h) (fun _ _ h => h) n _ rfl
  refine state_bind (P := fun t => configureCount t.bus = configureCount s.bus) _ _ hloop fun _ s1 he => ?_
  rw [he] at hloop
  split <;> exact hloop

/-! ## The port after a command other than OPEN -/

theorem bus_of_needsInstance {s t : State} {f : State → Ran Word} (hl : s.life ≠ .none)
    (h : finish (needsInstance s f) = .next t) : t.bus = (f s).state.bus := by
  cases h
  rw [final_bus, needsInstance_some hl]

/-- What follows a piece of a command without using the port leaves the port as the piece left it. -/
theorem bind_bus {α β : Type} (r : Ran α) {f : α → State → Ran β} (hf : ∀ a t, (f a t).state.bus = t.bus) :
    (r.bind f).state.bus = r.state.bus := by
  cases r with
  | done a s => exact hf a s
  | raised e s => rfl
  | hung s => rfl

theorem releaseHandle_bus (s : State) : (releaseHandle s).state.bus = (closedHandle s).bus := by
  rcases releaseHandle_cases s with ⟨-, e⟩ | ⟨-, e⟩ | ⟨-, e⟩ <;> rw [e] <;> rfl

/-- A command other than OPEN leaves the port as it was, or as its reads or its release of the handle make it. -/
theorem exec_bus_cases {i : Instr} {s t : State} (hi : isOpenCmd i = false) (h : exec i s = .next t) :
    t.bus = s.bus ∨ t.bus = (readCore s).state.bus ∨ (∃ n, t.bus = (avgCore n s).state.bus) ∨
    t.bus = (closedHandle s).bus := by
  by_cases hl : s.life = .none
  · obtain ⟨e, he⟩ := exec_unbuilt hi
    rw [he s hl] at h
    cases h
    exact .inl rfl
  cases i with
  | openBus tag => cases hi
  | read => exact .inr (.inl (bus_of_needsInstance hl h))
  | readNet => exact .inr (.inl ((bus_of_needsInstance hl h).trans (bind_bus _ fun _ _ => rfl)))
  | readAvg times => exact .inr (.inr (.inl ⟨_, (bus_of_needsInstance hl h).trans (bind_bus _ fun _ _ => rfl)⟩))
  | tare times => exact .inr (.inr (.inl ⟨_, (bus_of_needsInstance hl h).trans (bind_bus _ fun _ _ => rfl)⟩))
  | close =>
    cases h
    cases hs : s.life with
    | none => exact absurd hs hl
    | closed => exact .inl rfl
    | opened => exact .inr (.inr (.inr ((final_bus _).trans (releaseHandle_bus s))))
  | setGain tag =>
    cases h
    cases Gain.ofTag tag with
    | none => exact .inl rfl
    | some g => exact .inl (bus_of_needsInstance hl rfl)
  | _ =>
    have hb := bus_of_needsInstance hl h
    exact .inl hb

theorem exec_configureCount {i : Instr} {s t : State} (hi : isOpenCmd i = false) (h : exec i s = .next t) :
    configureCount t.bus = configureCount s.bus := by
  rcases exec_bus_cases hi h with e | e | ⟨n, e⟩ | e <;> rw [e]
  · exact configureCount_readCore s
  · exact configureCount_avgCore n s
  · exact configureCount_takeAck_busClose s.bus

/-! ## The one way to `LIFE = OPEN` -/

/-- An OPEN that moves `LIFE` to `OPEN` ran its sequence to the end and answered `OK` (R53, R55). -/
theorem execOpen_constructs {tag : BitVec 2} {s t : State} (h : exec (.openBus tag) s = .next t)
    (hl : s.life ≠ .opened) (ht : t.life = .opened) : ∃ g, t = respond 0 (constructed g s) := by
  rcases execOpen_cases tag s with ⟨-, e⟩ | ⟨g, -, ⟨-, e⟩ | ⟨-, e⟩⟩ <;> rw [e] at h <;> cases h
  · exact absurd ht hl
  · exact absurd ht hl
  -- every end of the sequence but the last leaves `LIFE` as it was
  rcases openSequence_cases g s with ⟨-, e⟩ | ⟨-, e⟩ | ⟨-, ⟨-, e⟩ | ⟨-, -, e⟩ | ⟨-, -, e⟩ | ⟨-, e⟩⟩ <;> rw [e] at ht ⊢
  · exact absurd ht hl
  · exact absurd ht hl
  · exact absurd ht hl
  · exact absurd ht hl
  · exact absurd ht hl
  · exact ⟨g, rfl⟩

/-- Settles O20: the transitions of `LIFE`, the instance check, and the configures of OPEN and of the rest. -/
theorem onlyOpenConstructs : Obligations.OnlyOpenConstructs := by
  refine ⟨fun i s t h hs ht => ?_, fun i s hwf hi hl => ⟨_, exec_of_none hwf hi hl, rfl, rfl⟩,
    fun i s t h hs ht => ?_, fun i s t h hi => ?_⟩
  · rcases lifeTransitions i s t h with e | ⟨hi, -⟩ | ⟨ho, -⟩
    · exact absurd (e.trans hs) ht
    · exact hi
    · simp [hs] at ho
  · rcases lifeTransitions i s t h with e | ⟨hi, -⟩ | ⟨ho, -⟩
    · exact absurd (e.symm.trans ht) hs
    · cases i with
      | openBus tag =>
        obtain ⟨g, rfl⟩ := execOpen_constructs h hs ht
        exact ⟨_, (issued_constructed g s).of_bus rfl, rfl⟩
      | _ => cases hi
    · exact absurd ho hs
  · obtain ⟨es, hes⟩ := exec_advances h
    have hcount := exec_configureCount hi h
    rw [configureCount, hes.1, List.countP_append] at hcount
    exact ⟨es, hes, Nat.left_eq_add.1 hcount.symm⟩

end Sys2Proof.Machine
end

section
/-! PROOFS. SET_GAIN (R57). A command that passes the instance check and then completes without the port has local
outcomes only, whatever it writes. -/

namespace Sys2Proof.Machine

/-- A command that is the check of R55 and then a body that completes in `u` without using the port. -/
theorem localOutcomes_of_needsInstance {i : Instr} {s u : State} {f : State → Ran Word} {data : Word}
    (he : exec i s = finish (needsInstance s f)) (hf : f s = .done data u) (hb : u.bus = s.bus) :
    LocalOutcomes i s ⟨.ok, data⟩ u.arch := by
  refine ⟨fun hl => ⟨raise .illegalState s, ?_, ⟨rfl, rfl⟩, rfl, rfl⟩,
    fun hl => ⟨respond data u, ?_, ⟨rfl, rfl⟩, rfl, hb⟩⟩
  · rw [he, needsInstance_none hl]; rfl
  · rw [he, needsInstance_some hl, hf]; rfl

/-- SET_GAIN with a tag that has a variant (R57). -/
theorem exec_setGain_of_tag {tag : BitVec 2} {g : Gain} (hg : Gain.ofTag tag = some g) (s : State) :
    exec (.setGain tag) s = finish (needsInstance s fun s => .done 0 (setGainSel g s)) := by
  simp only [exec, execSetGain, hg]

/-- Settles O27: the two refusals of R44 come before the instance check; past them the write of `GAIN_SEL` is all. -/
theorem setGainOutcomes : Obligations.SetGainOutcomes := by
  refine ⟨fun s arg h => ⟨_, runWord_reservedArgBits (mk := .setGain) rfl h s, ⟨rfl, rfl⟩, rfl, rfl⟩,
    fun s tag => ⟨?_, fun g hg => localOutcomes_of_needsInstance (exec_setGain_of_tag hg s) rfl rfl⟩⟩
  rintro rfl
  exact ⟨_, rfl, ⟨rfl, rfl⟩, rfl, rfl⟩

end Sys2Proof.Machine
end

section
/-! PROOFS. Every transfer sends the selected waveform (R56, R60): a read loads `TX_BUF` from the table's entry for
`GAIN_SEL`, and no read writes the table or `GAIN_SEL`, so every read of an average sends the same entry. -/

namespace Sys2Proof.Machine

/-- From `s` to `t` the block issued some transactions, every transfer among them sending `w`. -/
def TransfersSend (w : Buf7) (s t : State) : Prop :=
  ∃ es, Issued s t es ∧ ∀ tx a, BusEvent.busTransfer tx a ∈ es → tx = w

/-- The entry of the table that `GAIN_SEL` selects (R56). -/
def selectedWave (s : State) : Buf7 := s.par.wave.sel s.gainSel

theorem TransfersSend.of_bus_eq {w : Buf7} {s t : State} (h : t.bus = s.bus) : TransfersSend w s t :=
  ⟨[], issued_nil h, by simp⟩

theorem TransfersSend.trans {w : Buf7} {s t u : State} (h : TransfersSend w s t) (h' : TransfersSend w t u) :
    TransfersSend w s u := by
  obtain ⟨es, hi, hes⟩ := h
  obtain ⟨fs, hi', hfs⟩ := h'
  refine ⟨es ++ fs, hi.trans hi', fun tx a hmem => ?_⟩
  rcases List.mem_append.1 hmem with hmem | hmem
  · exact hes tx a hmem
  · exact hfs tx a hmem

/-- Only the port matters for what the transfers sent. -/
theorem TransfersSend.of_bus {w : Buf7} {s t t' : State} (h : TransfersSend w s t) (hb : t'.bus = t.bus) :
    TransfersSend w s t' := h.trans (.of_bus_eq hb)

/-! ## Reads -/

theorem ReadMoves.selectedWave_eq {s t : State} (h : ReadMoves s t) : selectedWave t = selectedWave s := by
  rcases h with h | ⟨-, h⟩ <;> exact congrArg (fun a : Arch => a.par.wave.sel a.gainSel) h

theorem readCore_transfersSend (s : State) : TransfersSend (selectedWave s) s (readCore s).state := by
  have hsent : TransfersSend (selectedWave s) s (sent s) := ⟨_, issued_sent s, by simp [selectedWave]⟩
  rcases readCore_cases s with ⟨-, e⟩ | ⟨-, ⟨-, e⟩ | ⟨-, e⟩ | ⟨l, -, -, e⟩ |
    ⟨rx, -, ⟨-, e⟩ | ⟨-, ⟨-, e⟩ | ⟨-, e⟩ | ⟨-, e⟩⟩⟩⟩ <;> rw [e]
  · exact .of_bus_eq rfl
  · exact hsent
  · exact hsent
  · exact hsent
  · exact hsent.of_bus rfl
  all_goals exact ⟨_, issued_autoClosed rx s, by simp [selectedWave]⟩

/-- What the loop of an average keeps: the selected entry, and that every transfer so far sent it (R70). -/
theorem avgLoop_transfersSend (k : Nat) (s : State) :
    selectedWave (avgLoop k s).state = selectedWave s ∧ TransfersSend (selectedWave s) s (avgLoop k s).state := by
  refine avgLoop_keeps (P := fun t => selectedWave t = selectedWave s ∧ TransfersSend (selectedWave s) s t)
    (fun t ⟨hw, ht⟩ => ⟨(readCore_moves t).selectedWave_eq.trans hw, ht.trans ?_⟩) (fun _ _ h => h) k s
    ⟨rfl, .of_bus_eq rfl⟩
  rw [← hw]
  exact readCore_transfersSend t

theorem avgCore_transfersSend (n : Nat) (s : State) : TransfersSend (selectedWave s) s (avgCore n s).state := by
  have hloop := (avgLoop_transfersSend n (clearAccumulator s)).2
  refine hloop.of_bus (bind_bus _ fun _ t => ?_)
  split <;> rfl

/-! ## Commands -/

/-- OPEN's sequence makes no transfer (R53). -/
theorem openSequence_transfersSend (w : Buf7) (g : Gain) (s : State) :
    TransfersSend w s (openSequence g s).state := by
  have hopen : TransfersSend w s (busOpen s) := ⟨_, issued_busOpen s, by simp⟩
  have hconf : TransfersSend w s (configured s) := ⟨_, issued_configured s, by simp⟩
  have hclean : TransfersSend w s (cleanedUp s) := ⟨_, issued_cleanedUp s, by simp⟩
  rcases openSequence_cases g s with ⟨-, e⟩ | ⟨-, e⟩ | ⟨-, ⟨-, e⟩ | ⟨-, -, e⟩ | ⟨-, -, e⟩ | ⟨-, e⟩⟩ <;> rw [e]
  · exact hopen
  · exact hopen
  · exact hconf
  · exact hclean
  · exact hclean
  · exact hconf.of_bus rfl

theorem execOpen_transfersSend (w : Buf7) {tag : BitVec 2} {s t : State} (h : exec (.openBus tag) s = .next t) :
    TransfersSend w s t := by
  rcases execOpen_cases tag s with ⟨-, e⟩ | ⟨g, -, ⟨-, e⟩ | ⟨-, e⟩⟩ <;> rw [e] at h <;> cases h
  · exact .of_bus_eq rfl
  · exact .of_bus_eq rfl
  · exact (openSequence_transfersSend w g s).of_bus (final_bus _)

theorem exec_transfersSend {i : Instr} {s t : State} (h : exec i s = .next t) :
    TransfersSend (selectedWave s) s t := by
  cases hi : isOpenCmd i with
  | true =>
    cases i with
    | openBus tag => exact execOpen_transfersSend _ h
    | _ => cases hi
  | false =>
    rcases exec_bus_cases hi h with e | e | ⟨n, e⟩ | e
    · exact .of_bus_eq e
    · exact (readCore_transfersSend s).of_bus e
    · exact (avgCore_transfersSend n s).of_bus e
    · exact ⟨_, (issued_closedHandle s).of_bus e, by simp⟩

/-- Settles O50: OPEN and CLOSE make no transfer, and every read sends the entry `GAIN_SEL` selects. -/
theorem waveformSentIsSelected : Obligations.WaveformSentIsSelected := fun _ _ _ h => exec_transfersSend h

end Sys2Proof.Machine
end

section
/-! PROOFS. The bit-unpacking engine and the sign stage (R61 to R64, R67): a nibble and the raw word as sums, the six
lanes of the raw word, each a function of its own byte, and the two widenings. -/

namespace Sys2Proof

/-! ## The nibble of a byte (R61) -/

/-- Two fields side by side, as a number. -/
theorem toNat_append_eq_add {m n : Nat} (x : BitVec m) (y : BitVec n) :
    (x ++ y).toNat = x.toNat * 2 ^ n + y.toNat := by
  rw [BitVec.toNat_append, ← Nat.shiftLeft_add_eq_or_of_lt y.isLt, Nat.shiftLeft_eq]

theorem toNat_ofBool_not (b : Bool) : (BitVec.ofBool (!b)).toNat = 1 - b.toNat := by
  cases b <;> rfl

/-- Settles O34: the four inverted bits, weighed by their places in the nibble. -/
theorem nibbleFormula : Obligations.NibbleFormula := by
  intro b
  have hbit : ∀ i < 8, (~~~b).getLsbD i = !b.getLsbD i := fun i hi => by simp [hi]
  rw [nib, hbit 6 (by decide), hbit 4 (by decide), hbit 2 (by decide), hbit 0 (by decide)]
  simp only [toNat_append_eq_add, toNat_ofBool_not]
  omega

/-- The odd bits of an encoded byte are 0, its even ones the complement of the nibble's (R67 (2)). -/
theorem toNat_encNib (n : BitVec 4) :
    (encNib n).toNat = (1 - (n.getLsbD 3).toNat) * 2 ^ 6 + (1 - (n.getLsbD 2).toNat) * 2 ^ 4 +
      (1 - (n.getLsbD 1).toNat) * 2 ^ 2 + (1 - (n.getLsbD 0).toNat) := by
  simp only [encNib, toNat_append_eq_add, toNat_ofBool_not, BitVec.toNat_ofNat]
  omega

theorem toNat_nib_not (b : Byte) : (nib (~~~b)).toNat = 15 - (nib b).toNat := by
  rw [nib_not, BitVec.toNat_not]

theorem nib_getLsbD (b : Byte) : ∀ j < 4, (nib b).getLsbD (3 - j) = !b.getLsbD (6 - 2 * j) := by
  revert b; decide

theorem nib_eq_zero_iff (b : Byte) : nib b = 0 ↔ b &&& 0x55#8 = 0x55#8 := by
  revert b; decide

theorem nib_eq_ones_iff (b : Byte) : nib b = 0xF#4 ↔ b &&& 0x55#8 = 0#8 := by
  revert b; decide

/-! ## The six lanes of the raw word (R62, R63) -/

/-- Settles O35: each nibble appended moves those before it up by 4 bits. -/
theorem wordAssembly : Obligations.WordAssembly := by
  intro rx
  simp only [decode24, toNat_append_eq_add]
  omega

/-- Lane `k` of a raw word, `RAW[23-4k : 20-4k]` (R63). -/
def lane (v : BitVec 24) (k : Nat) : BitVec 4 := v.extractLsb' (20 - 4 * k) 4

theorem lane_toNat (v : BitVec 24) (k : Nat) : (lane v k).toNat = v.toNat / 2 ^ (20 - 4 * k) % 16 := by
  rw [lane, BitVec.extractLsb'_toNat, Nat.shiftRight_eq_div_pow]

/-- Lane `k` depends on byte `k` alone. -/
theorem lane_decode24 (rx : Buf7) {k : Nat} (hk : k < 6) : lane (decode24 rx) k = nib (rx.byte k) := by
  apply BitVec.eq_of_toNat_eq
  rw [lane_toNat, wordAssembly]
  have h0 := (nib rx.b0).isLt
  have h1 := (nib rx.b1).isLt
  have h2 := (nib rx.b2).isLt
  have h3 := (nib rx.b3).isLt
  have h4 := (nib rx.b4).isLt
  have h5 := (nib rx.b5).isLt
  interval_cases k <;> simp only [Buf7.byte] <;> omega

/-- A raw word is its six lanes. -/
theorem eq_of_lanes {v w : BitVec 24} (h : ∀ k < 6, lane v k = lane w k) : v = w := by
  have hnat : ∀ k < 6, v.toNat / 2 ^ (20 - 4 * k) % 16 = w.toNat / 2 ^ (20 - 4 * k) % 16 := fun k hk => by
    rw [← lane_toNat, ← lane_toNat, h k hk]
  have h0 := hnat 0 (by decide)
  have h1 := hnat 1 (by decide)
  have h2 := hnat 2 (by decide)
  have h3 := hnat 3 (by decide)
  have h4 := hnat 4 (by decide)
  have h5 := hnat 5 (by decide)
  have hv := v.isLt
  have hw := w.isLt
  apply BitVec.eq_of_toNat_eq
  omega

theorem lane_not (v : BitVec 24) (k : Nat) : lane (~~~v) k = ~~~ lane v k := by
  apply BitVec.eq_of_getLsbD_eq
  intro i hi
  have hi24 : 20 - 4 * k + i < 24 := by omega
  simp [lane, hi, hi24]

theorem decode24_eq_iff {rx : Buf7} {v : BitVec 24} : decode24 rx = v ↔ ∀ k < 6, nib (rx.byte k) = lane v k := by
  constructor
  · rintro rfl k hk
    exact (lane_decode24 rx hk).symm
  · intro h
    exact eq_of_lanes fun k hk => (lane_decode24 rx hk).trans (h k hk)

/-- Settles O36: bit `3 - j` of lane `k`, read in the word and in the nibble of byte `k`. -/
theorem decoderBitMap : Obligations.DecoderBitMap := by
  intro rx k j hk hj
  rw [← nib_getLsbD _ j hj, ← lane_decode24 rx hk, lane, BitVec.getLsbD_extractLsb',
    show 20 - 4 * k + (3 - j) = 23 - (4 * k + j) by omega]
  simp only [show 3 - j < 4 by omega, decide_true, Bool.true_and]

/-! ## The laws of the decoder (R67, R68) -/

theorem enc24_byte (v : BitVec 24) {k : Nat} (hk : k < 6) : (enc24 v).byte k = encNib (lane v k) := by
  interval_cases k <;> rfl

theorem decode24_enc24 (v : BitVec 24) : decode24 (enc24 v) = v :=
  decode24_eq_iff.2 fun k hk => by rw [enc24_byte v hk, nib_encNib]

/-- The bytes of `Enc(W)`, by the sum of R67 (2). -/
theorem toNat_enc24_byte (v : BitVec 24) {k : Nat} (hk : k < 6) :
    ((enc24 v).byte k).toNat = (1 - (v.getLsbD (23 - 4 * k)).toNat) * 2 ^ 6 +
      (1 - (v.getLsbD (22 - 4 * k)).toNat) * 2 ^ 4 + (1 - (v.getLsbD (21 - 4 * k)).toNat) * 2 ^ 2 +
      (1 - (v.getLsbD (20 - 4 * k)).toNat) := by
  have hbit : ∀ i < 4, (lane v k).getLsbD i = v.getLsbD (20 - 4 * k + i) := fun i hi => by
    simp [lane, hi]
  rw [enc24_byte v hk, toNat_encNib, hbit 3 (by decide), hbit 2 (by decide), hbit 1 (by decide), hbit 0 (by decide),
    show 20 - 4 * k + 3 = 23 - 4 * k by omega, show 20 - 4 * k + 2 = 22 - 4 * k by omega,
    show 20 - 4 * k + 1 = 21 - 4 * k by omega, Nat.add_zero]

/-- Complementing the six data bytes complements the word, whatever byte 6 holds (R67 (3)). -/
theorem decode24_not (a b c d e f g h : Byte) :
    decode24 ⟨~~~a, ~~~b, ~~~c, ~~~d, ~~~e, ~~~f, h⟩ = ~~~ decode24 ⟨a, b, c, d, e, f, g⟩ := by
  refine decode24_eq_iff.2 fun k hk => ?_
  rw [lane_not, lane_decode24 _ hk]
  interval_cases k <;> exact nib_not _

theorem decode24_eq_zero_iff (rx : Buf7) : decode24 rx = 0 ↔ ∀ k < 6, rx.byte k &&& 0x55#8 = 0x55#8 := by
  have hlane : ∀ k < 6, lane 0 k = 0 := by decide
  rw [decode24_eq_iff]
  exact forall₂_congr fun k hk => by rw [hlane k hk, nib_eq_zero_iff]

theorem decode24_eq_ones_iff (rx : Buf7) : decode24 rx = 0xFFFFFF#24 ↔ ∀ k < 6, rx.byte k &&& 0x55#8 = 0#8 := by
  have hlane : ∀ k < 6, lane 0xFFFFFF#24 k = 0xF#4 := by decide
  rw [decode24_eq_iff]
  exact forall₂_congr fun k hk => by rw [hlane k hk, nib_eq_ones_iff]

/-- Settles O38: the laws lane by lane; the worked inputs are evaluated. -/
theorem decoderLaws : Obligations.DecoderLaws :=
  ⟨fun v => ⟨decode24_enc24 v, rfl, fun _ hk => toNat_enc24_byte v hk⟩, toNat_nib_not,
    fun a b c d e f g h => by rw [decode24_not a b c d e f g h, BitVec.toNat_not],
    decode24_eq_zero_iff, decode24_eq_ones_iff, rfl, fun _ => by simp only [decode24]; decide⟩

/-- Buffers that agree on the data bits decode to the same word (R68). -/
theorem decode24_congr {rx ry : Buf7} (h : ∀ k < 6, rx.byte k &&& 0x55#8 = ry.byte k &&& 0x55#8) :
    decode24 rx = decode24 ry :=
  decode24_eq_iff.2 fun k hk => by rw [lane_decode24 ry hk, nib_mask, h k hk, ← nib_mask]

/-! ## The sign stage (R64) -/

theorem toInt_ext_zext (raw : BitVec 24) : (ext .zext raw).toInt = raw.toNat := by
  have hlt := raw.isLt
  rw [ext, BitVec.toInt_setWidth, Int.bmod_eq_of_le (by omega) (by omega)]

theorem toInt_ext_sext24 (raw : BitVec 24) : (ext .sext24 raw).toInt = raw.toInt :=
  BitVec.toInt_signExtend_of_le (by decide)

/-- Settles O37: both modes as integers, and bit 23 as the sign bit of the raw word. -/
theorem signStage : Obligations.SignStage := by
  intro raw
  have hnat := raw.isLt
  have hlo := raw.le_toInt
  have hhi := raw.toInt_lt
  have hsign : raw.msb = raw.getLsbD 23 := BitVec.msb_eq_getLsbD_last raw
  rw [toInt_ext_zext, toInt_ext_sext24]
  refine ⟨rfl, rfl, by omega, by omega, by omega, by omega, fun h => ?_, fun h => ?_⟩
  · exact (BitVec.signExtend_eq_setWidth_of_msb_false (hsign.trans h)).symm
  · rw [BitVec.toInt_eq_msb_cond, if_pos (hsign.trans h)]
    omega

end Sys2Proof
end

section
/-! PROOFS. One read by the transport's answers (R65), and every outcome of a command that does one read (R66). -/

namespace Sys2Proof.Machine

/-! ## The pieces of a read, an equation for each answer (R65, R95) -/

section
variable {s : State}

theorem readCore_closed (hl : s.life = .closed) : readCore s = .raised .notOpen s := by
  simp only [readCore, hl]

theorem readCore_transfers (hl : s.life ≠ .closed) : readCore s = transferAndDecode (loadWaveform s) := by
  cases h : s.life with
  | closed => exact absurd h hl
  | none => simp only [readCore, h]
  | opened => simp only [readCore, h]

theorem readCore_unanswered (hl : s.life ≠ .closed) (hx : nextXfer s = .never) : readCore s = .hung (sent s) := by
  have hx' : nextXfer (loadWaveform s) = .never := hx
  rw [readCore_transfers hl, transferAndDecode, hx', sent]

theorem readCore_transferFails (hl : s.life ≠ .closed) (hx : nextXfer s = .err) :
    readCore s = .raised .ioTransfer (sent s) := by
  have hx' : nextXfer (loadWaveform s) = .err := hx
  rw [readCore_transfers hl, transferAndDecode, hx', sent]

theorem readCore_answered {l : List Byte} (hl : s.life ≠ .closed) (hx : nextXfer s = .ok l) :
    readCore s = receive l (sent s) := by
  have hx' : nextXfer (loadWaveform s) = .ok l := hx
  rw [readCore_transfers hl, transferAndDecode, hx', sent]

theorem receive_malformed {l : List Byte} (h : l.length ≠ 7) (s : State) : receive l s = .raised .malformed s := by
  rw [receive, ofList_eq_none.2 h]

theorem receive_keep (rx : Buf7) (ha : s.par.autoClose = false) :
    receive rx.toList s = .done (valueOf s.par.signMode rx) (loadResponse rx s) := by
  simp [receive, ha]

theorem receive_autoClose (rx : Buf7) (ha : s.par.autoClose = true) :
    receive rx.toList s = autoClose (valueOf s.par.signMode rx) (loadResponse rx s) := by
  simp [receive, ha]

theorem autoClose_unanswered (v : Word) (hk : nextAck s = .never) : autoClose v s = .hung (closedHandle s) := by
  have hk' : nextAck (setLife .closed s) = .never := hk
  simp only [autoClose, hk', closedHandle]

theorem autoClose_fails (v : Word) (hk : nextAck s = .err) : autoClose v s = .raised .ioClose (closedHandle s) := by
  have hk' : nextAck (setLife .closed s) = .err := hk
  simp only [autoClose, hk', closedHandle]

theorem autoClose_closes (v : Word) (hk : nextAck s = .ok) : autoClose v s = .done v (closedHandle s) := by
  have hk' : nextAck (setLife .closed s) = .ok := hk
  simp only [autoClose, hk', closedHandle]

end

/-! ## Commands that do one read (R66, R79) -/

/-- A command that is the check of R55, one read, and a rest that turns the read's value into the response's data. -/
theorem singleReadOutcomes_of_exec {i : Instr} {s : State} {result : Word → Word} {f : Word → State → Ran Word}
    (he : exec i s = finish (needsInstance s fun s => (readCore s).bind f))
    (hf : ∀ v s1, readCore s = .done v s1 → f v s1 = .done (result v) s1) : SingleReadOutcomes i s result := by
  have hread : ∀ {r : Ran Word}, s.life ≠ .none → readCore s = r → exec i s = .next (r.bind f).final := by
    rintro r hl rfl
    rw [he, needsInstance_some hl, finish_eq]
  refine ⟨fun hl => ⟨raise .illegalState s, by rw [he, needsInstance_none hl]; rfl, ⟨rfl, rfl⟩, rfl, rfl⟩,
    fun hl => ⟨_, hread (by simp [hl]) (readCore_closed hl), ⟨rfl, rfl⟩, rfl, rfl⟩, fun hl => ?_⟩
  have hn : s.life ≠ .none := by simp [hl]
  have hc : s.life ≠ .closed := by simp [hl]
  have hsent := issued_sent s
  refine ⟨fun hx => ?_, fun l hx h7 => ?_, fun hx => ?_, fun rx hx => ⟨fun ha => ?_, fun ha => ?_⟩⟩
  · rw [nextXfer, hx] at hsent
    exact ⟨_, hread hn (readCore_transferFails hc hx), ⟨rfl, rfl⟩, sent_arch s, hsent.of_bus rfl⟩
  · rw [nextXfer, hx] at hsent
    have e := (readCore_answered hc hx).trans (receive_malformed h7 _)
    exact ⟨_, hread hn e, ⟨rfl, rfl⟩, sent_arch s, hsent.of_bus rfl⟩
  · rw [nextXfer, hx] at hsent
    exact ⟨_, hread hn (readCore_unanswered hc hx), ⟨rfl, rfl⟩, sent_arch s, rfl, hsent⟩
  · rw [nextXfer, hx] at hsent
    have e := readCore_keep hl ha hx
    refine ⟨respond (result (valueOf s.par.signMode rx)) (received rx s), ?_, ⟨rfl, rfl⟩, received_arch rx s,
      hsent.of_bus rfl⟩
    rw [hread hn e, bind_done, hf _ _ e, final_done]
  have hclosed := issued_autoClosed rx s
  have e := (readCore_answered hc hx).trans (receive_autoClose rx ha)
  refine ⟨fun hk => ?_, fun hk => ?_, fun hk => ?_⟩
  all_goals rw [nextXfer, hx, nextAck, hk] at hclosed
  · have e' := readCore_close hl ha hx hk
    refine ⟨respond (result (valueOf s.par.signMode rx)) (autoClosed rx s), ?_, ⟨rfl, rfl⟩, autoClosed_arch rx s,
      hclosed.of_bus rfl⟩
    rw [hread hn e', bind_done, hf _ _ e', final_done]
  · exact ⟨_, hread hn (e.trans (autoClose_fails _ hk)), ⟨rfl, rfl⟩, autoClosed_arch rx s, hclosed.of_bus rfl⟩
  · exact ⟨_, hread hn (e.trans (autoClose_unanswered _ hk)), ⟨rfl, rfl⟩, autoClosed_arch rx s, rfl, rfl, rfl, hclosed⟩

theorem bind_done_eq_self {α : Type} (r : Ran α) : r.bind .done = r := by
  cases r <;> rfl

/-- Settles O40: READ is one read whose value is the response, as it is. -/
theorem readOutcomes : Obligations.ReadOutcomes := fun s =>
  singleReadOutcomes_of_exec (f := .done) (by simp only [bind_done_eq_self]; rfl) fun _ _ _ => rfl

end Sys2Proof.Machine
end

section
/-! PROOFS. What the reading commands do to the registers (R66, R69, R71, R72, R79): reads move at most `LIFE`, TARE
writes `OFFSET` after its last read, and in `CLOSED` every one of them stops before its first transaction. -/

namespace Sys2Proof.Machine

/-! ## The one-shot law (R69) -/

/-- In `CLOSED` an average stops at its first read, or, with none to do, at the division (R70). -/
theorem avgCore_closed (n : Nat) {s : State} (hl : s.life = .closed) :
    avgCore n s = .raised (if n = 0 then .divZero else .notOpen) (clearAccumulator s) := by
  cases n with
  | zero => rfl
  | succ k =>
    have hread : readCore (clearAccumulator s) = .raised .notOpen (clearAccumulator s) := readCore_closed hl
    rw [avgCore, avgLoop_succ, hread]
    rfl

/-- The error of an average in `CLOSED`, by its count and by its word (R91, R92). -/
theorem averageError_eq (times : Word) :
    (if repeatCount times = 0 then Status.divZero else .notOpen) =
      if (times != 0) = true then Status.notOpen else .divZero := by
  by_cases h : times = 0
  · subst h; rfl
  · have hn : repeatCount times ≠ 0 := fun h0 => h (BitVec.eq_of_toNat_eq h0)
    rw [if_neg hn, if_pos (bne_iff_ne.2 h)]

/-- Every reading command in `CLOSED` ends in its error where it started, but for the accumulator (R69, R91, R92). -/
theorem exec_reading_closed {i : Instr} {s : State} (hi : reading i = true) (hl : s.life = .closed) :
    ∃ d, exec i s = .next (raise (if readsOnce i then .notOpen else .divZero) { s with dp := d }) := by
  have hn : s.life ≠ .none := by simp [hl]
  cases i with
  | read => exact ⟨s.dp, by rw [exec, execRead, needsInstance_some hn, readCore_closed hl]; rfl⟩
  | readNet => exact ⟨s.dp, by rw [exec, execReadNet, needsInstance_some hn, readCore_closed hl]; rfl⟩
  | readAvg times =>
    refine ⟨(clearAccumulator s).dp, ?_⟩
    rw [exec, execReadAvg, needsInstance_some hn, avgCore_closed _ hl, averageError_eq]
    rfl
  | tare times =>
    refine ⟨(clearAccumulator s).dp, ?_⟩
    rw [exec, execTare, needsInstance_some hn, avgCore_closed _ hl, averageError_eq]
    rfl
  | _ => cases hi

/-- Settles O49: the auto-close comes before the value, the reads' first check, and how `LIFE` may move. -/
theorem oneShotLaw : Obligations.OneShotLaw := by
  refine ⟨fun s v t ha h => ?_, fun i s hi hl => ?_, fun i s t hl hi h => ?_, fun s ha => ?_⟩
  · rcases readCore_cases s with ⟨-, e⟩ | ⟨-, ⟨-, e⟩ | ⟨-, e⟩ | ⟨l, -, -, e⟩ |
      ⟨rx, -, ⟨hk, e⟩ | ⟨-, ⟨-, e⟩ | ⟨-, e⟩ | ⟨-, e⟩⟩⟩⟩ <;> rw [e] at h <;> cases h
    · simp [ha] at hk
    · exact autoClosed_life rx s
  · obtain ⟨d, hd⟩ := exec_reading_closed hi hl
    exact ⟨_, hd, ⟨rfl, rfl⟩, rfl, rfl⟩
  · rcases lifeTransitions i s t h with e | ⟨ho, -⟩ | ⟨ho, -⟩
    · exact e.trans hl
    · simp [hi] at ho
    · simp [hl] at ho
  · rcases readCore_moves s with h | ⟨h, -⟩
    · exact congrArg Arch.life h
    · simp [ha] at h

/-! ## The frame of the reading commands (R66, R71, R72, R79) -/

theorem ReadMoves.refl (s : State) : ReadMoves s s := .inl rfl

/-- Ending a command moves none of the view. -/
theorem ReadMoves.final {s : State} {r : Ran Word} (h : ReadMoves s r.state) : ReadMoves s r.final := by
  rwa [ReadMoves, final_arch]

theorem ReadMoves.of_needsInstance {s : State} {f : State → Ran Word} (h : ReadMoves s (f s).state) :
    ReadMoves s (needsInstance s f).state := by
  by_cases hl : s.life = .none
  · rw [needsInstance_none hl]; exact .refl s
  · rwa [needsInstance_some hl]

/-- What follows the reads without writing the view leaves what they did. -/
theorem ReadMoves.bind {α : Type} {s : State} {r : Ran α} {f : α → State → Ran Word} (h : ReadMoves s r.state)
    (hf : ∀ a t, (f a t).state = t) : ReadMoves s (r.bind f).state :=
  state_bind r f h fun a t he => by rw [hf a t]; rwa [he] at h

/-- A reading command only reads, unless it is a TARE that succeeds: that one reads, then writes `OFFSET` (R72). -/
theorem exec_reading_cases {i : Instr} {s t : State} (hi : reading i = true) (h : exec i s = .next t) :
    ReadMoves s t ∨ ∃ times u v, i = .tare times ∧ ReadMoves s u ∧ t = respond 0 (setOffsetReg v u) := by
  cases i with
  | read => cases h; exact .inl (.final (.of_needsInstance (readCore_moves s)))
  | readNet => cases h; exact .inl (.final (.of_needsInstance ((readCore_moves s).bind fun _ _ => rfl)))
  | readAvg times => cases h; exact .inl (.final (.of_needsInstance ((avgCore_moves _ s).bind fun _ _ => rfl)))
  | tare times =>
    by_cases hl : s.life = .none
    · rw [exec, execTare, needsInstance_none hl] at h
      cases h
      exact .inl (.refl s)
    · have hreads := avgCore_moves (repeatCount times) s
      rw [exec, execTare, needsInstance_some hl] at h
      cases hr : avgCore (repeatCount times) s with
      | done q u =>
        rw [hr] at h hreads
        cases h
        exact .inr ⟨times, u, wrap32 q, rfl, hreads, rfl⟩
      | raised e u => rw [hr] at h hreads; cases h; exact .inl hreads
      | hung u => rw [hr] at h hreads; cases h; exact .inl hreads
  | _ => cases hi

theorem ReadMoves.frame {s t : State} (h : ReadMoves s t) :
    t.arch = { s.arch with life := t.life } ∧ (t.life = s.life ∨ t.life = .closed) := by
  rcases h with h | ⟨-, h⟩
  · have hl : t.life = s.life := congrArg Arch.life h
    exact ⟨by rw [h, hl]; rfl, .inl hl⟩
  · have hl : t.life = .closed := congrArg Arch.life h
    exact ⟨by rw [h, hl], .inr hl⟩

/-- Settles O51: reads write no register but `LIFE`, and the write of `OFFSET` is a successful TARE's. -/
theorem readingFrame : Obligations.ReadingFrame := by
  intro i s t hi h
  rcases exec_reading_cases hi h with hr | ⟨times, u, v, rfl, hr, rfl⟩
  · obtain ⟨harch, hlife⟩ := hr.frame
    have ho : t.offset = s.offset := congrArg Arch.offset harch
    exact ⟨by rw [harch, ho]; rfl, hlife, fun _ => ho, fun _ _ => ho⟩
  · obtain ⟨harch, hlife⟩ := hr.frame
    refine ⟨congrArg (fun a : Arch => { a with offset := v }) harch, hlife, fun h => absurd rfl (h times), fun _ h => ?_⟩
    exact absurd rfl (h rfl)

end Sys2Proof.Machine
end

section
/-! PROOFS. Two runs of one command whose transfers are answered alike but for the don't-care bits (R68): the runs
differ in what the transfers answer, so they are compared stage by stage; every stage decodes, and so goes on, alike. -/

namespace Sys2Proof.Machine

/-! ## Answers that agree (R68) -/

theorem agreeOnData_refl (x : XferAnswer) : agreeOnData x x = true := by
  cases x <;> simp [agreeOnData]

/-- Answers that agree are of one kind. -/
theorem agreeOnData_cases {x y : XferAnswer} (h : agreeOnData x y = true) :
    (x = .never ∧ y = .never) ∨ (x = .err ∧ y = .err) ∨
    ∃ xs ys, x = .ok xs ∧ y = .ok ys ∧ xs.length = ys.length ∧
      ∀ k < 6, xs.getD k 0 &&& 0x55#8 = ys.getD k 0 &&& 0x55#8 := by
  cases x with
  | never =>
    cases y with
    | never => exact .inl ⟨rfl, rfl⟩
    | _ => cases h
  | err =>
    cases y with
    | err => exact .inr (.inl ⟨rfl, rfl⟩)
    | _ => cases h
  | ok xs =>
    cases y with
    | ok ys => exact .inr (.inr ⟨xs, ys, rfl, rfl, by simpa [agreeOnData] using h⟩)
    | _ => cases h

theorem toList_getD (rx : Buf7) {k : Nat} (hk : k < 6) : rx.toList.getD k 0 = rx.byte k := by
  interval_cases k <;> rfl

/-! ## Ports and states that agree -/

/-- Two ports that will answer alike, but for the don't-care bits of the transfers. -/
def PortsAgree (b c : Bus) : Prop :=
  (∀ k, c.ackAt k = b.ackAt k) ∧ ∀ k, agreeOnData (b.xferAt k) (c.xferAt k) = true

/-- Scripts that agree at every place make ports that agree: past them both draw the same free values. -/
theorem portsAgree_of_scripts (b : Bus) {xs ys : List XferAnswer} (hlen : xs.length = ys.length)
    (h : ∀ p ∈ xs.zip ys, agreeOnData p.1 p.2 = true) : PortsAgree { b with xfers := xs } { b with xfers := ys } := by
  refine ⟨fun _ => rfl, fun k => ?_⟩
  by_cases hk : k < xs.length
  · have hky : k < ys.length := hlen ▸ hk
    rw [xferAt_script (List.getElem?_eq_getElem hk), xferAt_script (List.getElem?_eq_getElem hky)]
    have hmem : (xs[k], ys[k]) ∈ xs.zip ys := List.mem_iff_getElem.2 ⟨k, by simp [hk, hky], List.getElem_zip⟩
    exact h _ hmem
  · have hky : ¬ k < ys.length := hlen ▸ hk
    have hfree : Bus.xferAt { b with xfers := xs } k = Bus.xferAt { b with xfers := ys } k := by
      simp only [Bus.xferAt, List.getElem?_eq_none (Nat.le_of_not_lt hk),
        List.getElem?_eq_none (Nat.le_of_not_lt hky), hlen]
    rw [hfree]
    exact agreeOnData_refl _

theorem PortsAgree.takeAck {b c : Bus} (h : PortsAgree b c) (ev ev' : Ack → BusEvent) :
    PortsAgree (b.takeAck ev) (c.takeAck ev') :=
  ⟨fun k => by rw [takeAck_ackAt, takeAck_ackAt]; exact h.1 (k + 1), h.2⟩

theorem PortsAgree.takeXfer {b c : Bus} (h : PortsAgree b c) (tx tx' : Buf7) :
    PortsAgree (b.takeXfer tx) (c.takeXfer tx') :=
  ⟨h.1, fun k => by rw [takeXfer_xferAt, takeXfer_xferAt]; exact h.2 (k + 1)⟩

/-- The states differ at most in what the don't-care bits reach: the buffers of a transfer, the transactions recorded,
and the answers still to come. -/
structure SameButDontCare (s u : State) : Prop where
  arch : u.arch = s.arch
  rsp : u.rsp = s.rsp
  rspValid : u.rspValid = s.rspValid
  acc : u.dp.acc = s.dp.acc
  bus : PortsAgree s.bus u.bus

namespace SameButDontCare
variable {s u : State}

theorem life (h : SameButDontCare s u) : u.life = s.life := congrArg Arch.life h.arch
theorem par (h : SameButDontCare s u) : u.par = s.par := congrArg Arch.par h.arch
theorem offset (h : SameButDontCare s u) : u.offset = s.offset := congrArg Arch.offset h.arch

/-! ## The operations take states that agree to states that agree -/

theorem setGainSel (h : SameButDontCare s u) (g : Gain) : SameButDontCare (setGainSel g s) (setGainSel g u) :=
  ⟨congrArg (fun a : Arch => { a with gainSel := g }) h.arch, h.rsp, h.rspValid, h.acc, h.bus⟩

theorem setOffsetReg (h : SameButDontCare s u) (v : Word) : SameButDontCare (setOffsetReg v s) (setOffsetReg v u) :=
  ⟨congrArg (fun a : Arch => { a with offset := v }) h.arch, h.rsp, h.rspValid, h.acc, h.bus⟩

theorem setLife (h : SameButDontCare s u) (l : Life) : SameButDontCare (setLife l s) (setLife l u) :=
  ⟨congrArg (fun a : Arch => { a with life := l }) h.arch, h.rsp, h.rspValid, h.acc, h.bus⟩

theorem clearAccumulator (h : SameButDontCare s u) : SameButDontCare (clearAccumulator s) (clearAccumulator u) :=
  ⟨h.arch, h.rsp, h.rspValid, rfl, h.bus⟩

theorem accumulate (h : SameButDontCare s u) (v : Word) : SameButDontCare (accumulate v s) (accumulate v u) :=
  ⟨h.arch, h.rsp, h.rspValid, congrArg (· + sext64 v) h.acc, h.bus⟩

theorem loadResponse (h : SameButDontCare s u) (rx ry : Buf7) :
    SameButDontCare (loadResponse rx s) (loadResponse ry u) := ⟨h.arch, h.rsp, h.rspValid, h.acc, h.bus⟩

theorem busOpen (h : SameButDontCare s u) : SameButDontCare (busOpen s) (busOpen u) :=
  ⟨h.arch, h.rsp, h.rspValid, h.acc, h.bus.takeAck _ _⟩

theorem configured (h : SameButDontCare s u) : SameButDontCare (configured s) (configured u) :=
  ⟨h.arch, h.rsp, h.rspValid, h.acc, (h.bus.takeAck _ _).takeAck _ _⟩

theorem busClose (h : SameButDontCare s u) : SameButDontCare (busClose s) (busClose u) :=
  ⟨h.arch, h.rsp, h.rspValid, h.acc, h.bus.takeAck _ _⟩

theorem sent (h : SameButDontCare s u) : SameButDontCare (sent s) (sent u) :=
  ⟨h.arch, h.rsp, h.rspValid, h.acc, h.bus.takeXfer _ _⟩

theorem endCommand (h : SameButDontCare s u) (r : Response) : SameButDontCare (endCommand r s) (endCommand r u) :=
  ⟨h.arch, rfl, rfl, rfl, h.bus⟩

theorem final {r r' : Ran Word} (h : r.Alike SameButDontCare r') : SameButDontCare r.final r'.final :=
  Ran.Alike.final h fun x _ _ h => h.endCommand x

/-! ## The transport's sequences -/

theorem autoClose (h : SameButDontCare s u) (v : Word) :
    (autoClose v s).Alike SameButDontCare (autoClose v u) := by
  have hack : nextAck u = nextAck s := h.bus.1 0
  have hc : SameButDontCare (closedHandle s) (closedHandle u) := (h.setLife .closed).busClose
  cases hk : nextAck s with
  | never => rw [autoClose_unanswered v hk, autoClose_unanswered v (hack.trans hk)]; exact .hung hc
  | err => rw [autoClose_fails v hk, autoClose_fails v (hack.trans hk)]; exact .raised hc
  | ok => rw [autoClose_closes v hk, autoClose_closes v (hack.trans hk)]; exact .done hc

theorem openSequence (h : SameButDontCare s u) (g : Gain) :
    (openSequence g s).Alike SameButDontCare (openSequence g u) := by
  have hack := h.bus.1
  rcases openSequence_cases g s with ⟨h0, e⟩ | ⟨h0, e⟩ | ⟨h0, ⟨h1, e⟩ | ⟨h1, h2, e⟩ | ⟨h1, h2, e⟩ | ⟨h1, e⟩⟩ <;>
    rw [e]
  · rw [openSequence_openUnanswered g ((hack 0).trans h0)]
    exact .hung h.busOpen
  · rw [openSequence_openFails g ((hack 0).trans h0)]
    exact .raised h.busOpen
  · rw [openSequence_configureUnanswered g ((hack 0).trans h0) ((hack 1).trans h1)]
    exact .hung h.configured
  · rw [openSequence_cleanupUnanswered g ((hack 0).trans h0) ((hack 1).trans h1) ((hack 2).trans h2)]
    exact .hung h.configured.busClose
  · rw [openSequence_configureFails g ((hack 0).trans h0) ((hack 1).trans h1) (by rwa [hack 2])]
    exact .raised h.configured.busClose
  · rw [openSequence_constructs g ((hack 0).trans h0) ((hack 1).trans h1)]
    exact .done (((h.configured.setGainSel g).setOffsetReg 0).setLife .opened)

/-! ## Reads (R65) -/

/-- Bytes that agree on the data bits are refused alike, or decode to one value (R62, R64, R95). -/
theorem receive (h : SameButDontCare s u) {xs ys : List Byte} (hlen : xs.length = ys.length)
    (hdata : ∀ k < 6, xs.getD k 0 &&& 0x55#8 = ys.getD k 0 &&& 0x55#8) :
    (receive xs s).Alike SameButDontCare (receive ys u) := by
  cases hx : Buf7.ofList xs with
  | none =>
    have h7 : xs.length ≠ 7 := ofList_eq_none.1 hx
    rw [receive_malformed h7, receive_malformed (hlen ▸ h7)]
    exact .raised h
  | some rx =>
    cases hy : Buf7.ofList ys with
    | none => exact absurd (hlen ▸ congrArg List.length (ofList_eq_some.1 hx)) (ofList_eq_none.1 hy)
    | some ry =>
      obtain rfl := ofList_eq_some.1 hx
      obtain rfl := ofList_eq_some.1 hy
      have hraw : decode24 rx = decode24 ry :=
        decode24_congr fun k hk => by rw [← toList_getD rx hk, hdata k hk, toList_getD ry hk]
      have hval : valueOf u.par.signMode ry = valueOf s.par.signMode rx := by rw [h.par, valueOf, valueOf, hraw]
      cases ha : s.par.autoClose with
      | false =>
        rw [receive_keep rx ha, receive_keep ry (by rw [h.par, ha]), hval]
        exact .done (h.loadResponse rx ry)
      | true =>
        rw [receive_autoClose rx ha, receive_autoClose ry (by rw [h.par, ha]), hval]
        exact (h.loadResponse rx ry).autoClose _

theorem readCore (h : SameButDontCare s u) : (readCore s).Alike SameButDontCare (readCore u) := by
  by_cases hl : s.life = .closed
  · rw [readCore_closed hl, readCore_closed (h.life.trans hl)]
    exact .raised h
  have hlu : u.life ≠ .closed := by rwa [h.life]
  rcases agreeOnData_cases (h.bus.2 0) with ⟨hx, hy⟩ | ⟨hx, hy⟩ | ⟨xs, ys, hx, hy, hlen, hdata⟩
  · rw [readCore_unanswered hl hx, readCore_unanswered hlu hy]
    exact .hung h.sent
  · rw [readCore_transferFails hl hx, readCore_transferFails hlu hy]
    exact .raised h.sent
  · rw [readCore_answered hl hx, readCore_answered hlu hy]
    exact h.sent.receive hlen hdata

theorem avgLoop (h : SameButDontCare s u) (k : Nat) : (avgLoop k s).Alike SameButDontCare (avgLoop k u) := by
  induction k generalizing s u with
  | zero => exact .done h
  | succ k ih =>
    rw [avgLoop_succ, avgLoop_succ]
    exact h.readCore.bind fun v _ _ h1 => ih (h1.accumulate v)

theorem avgCore (h : SameButDontCare s u) (n : Nat) : (avgCore n s).Alike SameButDontCare (avgCore n u) := by
  refine (h.clearAccumulator.avgLoop n).bind fun _ _ _ h1 => ?_
  rw [h1.acc]
  split
  · exact .raised h1
  · exact .done h1

/-! ## Commands -/

/-- A command that starts with the check of R55 runs alike where its body does. -/
theorem needsInstance {f : State → Ran Word} (h : SameButDontCare s u)
    (hf : (f s).Alike SameButDontCare (f u)) :
    SameButDontCare (needsInstance s f).final (needsInstance u f).final :=
  final (needsInstance_alike h.life h hf)

theorem execOpen {tag : BitVec 2} {t v : State} (h : SameButDontCare s u) (ht : exec (.openBus tag) s = .next t)
    (hv : exec (.openBus tag) u = .next v) : SameButDontCare t v := by
  cases ht; cases hv
  refine final ?_
  rw [h.life]
  cases Gain.ofTag tag with
  | none => exact .raised h
  | some g =>
    cases s.life with
    | opened => exact .raised h
    | none => exact h.openSequence g
    | closed => exact h.openSequence g

theorem execClose {t v : State} (h : SameButDontCare s u) (ht : exec .close s = .next t)
    (hv : exec .close u = .next v) : SameButDontCare t v := by
  cases ht; cases hv
  refine final ?_
  rw [h.life]
  cases s.life with
  | none => exact .raised h
  | closed => exact .done h
  | opened => exact h.autoClose 0

theorem exec {i : Instr} {t v : State} (h : SameButDontCare s u) (ht : exec i s = .next t)
    (hv : exec i u = .next v) : SameButDontCare t v := by
  cases i with
  | openBus tag => exact h.execOpen ht hv
  | close => exact h.execClose ht hv
  | setGain tag =>
    cases ht; cases hv
    cases Gain.ofTag tag with
    | none => exact h.endCommand _
    | some g => exact h.needsInstance (.done (h.setGainSel g))
  | setOffset value => cases ht; cases hv; exact h.needsInstance (.done (h.setOffsetReg value))
  | getOffset => cases ht; cases hv; exact h.needsInstance (h.offset ▸ .done h)
  | read => cases ht; cases hv; exact h.needsInstance h.readCore
  | readNet =>
    cases ht; cases hv
    exact h.needsInstance (h.readCore.bind fun v _ _ h1 => h1.offset ▸ .done h1)
  | readAvg times => cases ht; cases hv; exact h.needsInstance ((h.avgCore _).bind fun _ _ _ h1 => .done h1)
  | tare times =>
    cases ht; cases hv
    exact h.needsInstance ((h.avgCore _).bind fun q _ _ h1 => .done (h1.setOffsetReg (wrap32 q)))
  | isReady => cases ht; cases hv; exact h.needsInstance (.done h)
  | powerDown => cases ht; cases hv; exact h.needsInstance (.done h)
  | powerUp => cases ht; cases hv; exact h.needsInstance (.done h)

end SameButDontCare

/-- Settles O39: agreeing buffers decode alike, and runs from ports that agree stay alike. -/
theorem dontCareBits : Obligations.DontCareBits := by
  refine ⟨fun rx ry h => ⟨decode24_congr h, fun m => by rw [valueOf, valueOf, decode24_congr h]⟩,
    fun i s t u xs ys hlen hagree ht hu => ?_⟩
  have hstart : SameButDontCare { s with bus := { s.bus with xfers := xs } }
      { s with bus := { s.bus with xfers := ys } } :=
    ⟨rfl, rfl, rfl, rfl, portsAgree_of_scripts s.bus hlen hagree⟩
  have h := hstart.exec ht hu
  exact ⟨h.rsp.symm, h.rspValid.symm, h.arch.symm⟩

end Sys2Proof.Machine
end

section
/-! PROOFS. The arithmetic of an average (R70, R73, R74): bounds on the values and on their sum, the accumulator as that
sum, and the quotient rounded toward zero. -/

namespace Sys2Proof.Machine

/-! ## Values and their sum (R64, R73) -/

theorem valueOf_zext_nonneg (rx : Buf7) : 0 ≤ (valueOf .zext rx).toInt := by
  rw [valueOf, toInt_ext_zext]
  omega

/-- Every value a read can give, in either sign mode (R64). -/
theorem valueOf_bounds (m : SignMode) (rx : Buf7) :
    -(2 : Int) ^ 23 ≤ (valueOf m rx).toInt ∧ (valueOf m rx).toInt ≤ 2 ^ 24 - 1 := by
  cases m with
  | zext =>
    have hlt := (decode24 rx).isLt
    rw [valueOf, toInt_ext_zext]
    omega
  | sext24 =>
    have hlo := (decode24 rx).le_toInt
    have hhi := (decode24 rx).toInt_lt
    rw [valueOf, toInt_ext_sext24]
    omega

/-- Bounds on each of `n` values bound their sum by `n` times as much. -/
theorem readSum_bounds {m : SignMode} {rx : Nat → Buf7} {lo hi : Int} {n : Nat}
    (h : ∀ k, k < n → lo ≤ (valueOf m (rx k)).toInt ∧ (valueOf m (rx k)).toInt ≤ hi) :
    lo * n ≤ readSum m rx n ∧ readSum m rx n ≤ hi * n := by
  induction n with
  | zero => simp [readSum]
  | succ n ih =>
    have hsum := ih fun k hk => h k (by omega)
    have hlast := h n (by omega)
    rw [readSum, Nat.cast_succ, mul_add_one, mul_add_one]
    omega

/-- The sum of `n` equal values. -/
theorem readSum_const (m : SignMode) (rx : Buf7) (n : Nat) :
    readSum m (fun _ => rx) n = (valueOf m rx).toInt * n := by
  have h := readSum_bounds (m := m) (rx := fun _ => rx) (n := n) fun _ _ => ⟨le_rfl, le_rfl⟩
  exact le_antisymm h.2 h.1

/-- The sum, taken from its first value on. -/
theorem readSum_succ_first (m : SignMode) (rx : Nat → Buf7) (n : Nat) :
    readSum m rx (n + 1) = (valueOf m (rx 0)).toInt + readSum m (fun k => rx (k + 1)) n := by
  induction n with
  | zero => simp [readSum]
  | succ n ih => rw [readSum, ih, readSum, add_assoc]

/-- Fewer than 2^32 values sum to less than 2^56 in size (R73). -/
theorem readSum_natAbs_lt (m : SignMode) (rx : Nat → Buf7) {n : Nat} (hn : n < 2 ^ 32) :
    (readSum m rx n).natAbs < 2 ^ 56 := by
  have h := readSum_bounds (m := m) (rx := rx) (n := n) fun k _ => valueOf_bounds m (rx k)
  omega

/-- So `ACC`, 64 bits wide, holds their sum exactly (R73). -/
theorem toInt_ofInt_readSum (m : SignMode) (rx : Nat → Buf7) {n : Nat} (hn : n < 2 ^ 32) :
    (BitVec.ofInt 64 (readSum m rx n)).toInt = readSum m rx n := by
  have h := readSum_natAbs_lt m rx hn
  exact BitVec.toInt_ofInt_eq_self (by decide) (by omega) (by omega)

/-! ## The quotient (R74) -/

/-- Division toward zero keeps a sum's bounds: it is monotone, and exact on the bounds themselves. -/
theorem truncDiv_between {lo hi a : Int} {n : Nat} (hn : 1 ≤ n) (hlo : lo * n ≤ a) (hhi : a ≤ hi * n) :
    lo ≤ truncDiv a n ∧ truncDiv a n ≤ hi := by
  have hpos : (0 : Int) < n := by omega
  have h1 := Int.tdiv_le_tdiv hpos hlo
  have h2 := Int.tdiv_le_tdiv hpos hhi
  rw [Int.mul_tdiv_cancel _ hpos.ne'] at h1 h2
  exact ⟨h1, h2⟩

/-- The remainder is smaller than the divisor and has the dividend's sign, or is zero. -/
theorem truncDiv_remainder (a : Int) {n : Nat} (hn : 1 ≤ n) :
    ∃ r : Int, truncDiv a n * n + r = a ∧ r.natAbs < n ∧ (0 ≤ a → 0 ≤ r) ∧ (a ≤ 0 → r ≤ 0) := by
  refine ⟨a.tmod n, Int.tdiv_mul_add_tmod a n, ?_, Int.tmod_nonneg _, fun ha => ?_⟩
  · rw [Int.natAbs_tmod, Int.natAbs_natCast]
    exact Nat.mod_lt _ hn
  · have h := Int.tmod_nonneg n (Int.neg_nonneg.2 ha)
    rw [Int.neg_tmod] at h
    omega

/-- Settles O53: the quotient lies between the values' bounds, hence in 32 bits; under ZEXT the sum is not negative. -/
theorem divisionLaw : Obligations.DivisionLaw := by
  intro m rx n hn
  have hbetween : ∀ lo hi : Int, (∀ k, k < n → lo ≤ (valueOf m (rx k)).toInt ∧ (valueOf m (rx k)).toInt ≤ hi) →
      lo ≤ truncDiv (readSum m rx n) n ∧ truncDiv (readSum m rx n) n ≤ hi := fun lo hi h =>
    truncDiv_between hn (readSum_bounds h).1 (readSum_bounds h).2
  refine ⟨truncDiv_remainder _ hn, hbetween, ?_, ?_⟩
  · have hq := hbetween _ _ fun k _ => valueOf_bounds m (rx k)
    exact BitVec.toInt_ofInt_eq_self (by decide) (by omega) (by omega)
  · rintro rfl
    have hsum := readSum_bounds (n := n) fun k _ => ⟨valueOf_zext_nonneg (rx k), (valueOf_bounds .zext (rx k)).2⟩
    exact (Int.fdiv_eq_tdiv_of_nonneg (by omega) (by omega)).symm

end Sys2Proof.Machine
end

section
/-! PROOFS. The averaging loop on answered reads (R70, R73): however it comes to complete, each read adds its value to
`ACC` and 1 to `CNT`. Then READ_AVG and TARE without auto-close (R71, R72). -/

namespace Sys2Proof.Machine

/-! ## The loop (R70, R73) -/

theorem toList_injective : Function.Injective Buf7.toList := fun _ _ h =>
  Option.some.inj (congrArg Buf7.ofList h)

/-- A read that completes on a 7-byte answer gives the answer's value, with or without an auto-close after it (R65). -/
theorem readCore_done {s t : State} {v : Word} {rx : Buf7} (hx : nextXfer s = .ok rx.toList)
    (h : readCore s = .done v t) : v = valueOf s.par.signMode rx ∧ (t = received rx s ∨ t = autoClosed rx s) := by
  rcases readCore_cases s with ⟨-, e⟩ | ⟨-, ⟨-, e⟩ | ⟨-, e⟩ | ⟨l, -, -, e⟩ |
    ⟨rx', hx', ⟨-, e⟩ | ⟨-, ⟨-, e⟩ | ⟨-, e⟩ | ⟨-, e⟩⟩⟩⟩ <;> rw [e] at h <;> cases h
  all_goals
    rw [hx] at hx'
    obtain rfl := toList_injective (XferAnswer.ok.inj hx')
  · exact ⟨rfl, .inl rfl⟩
  · exact ⟨rfl, .inr rfl⟩

/-- Such a read uses up one transfer answer and leaves the sum, the count and the parameters (R65). -/
theorem readCore_done_keeps {s t : State} {v : Word} {rx : Buf7} (hx : nextXfer s = .ok rx.toList)
    (h : readCore s = .done v t) :
    (∀ k, t.bus.xferAt k = s.bus.xferAt (k + 1)) ∧ t.dp.acc = s.dp.acc ∧ t.dp.cnt = s.dp.cnt ∧ t.par = s.par := by
  obtain ⟨-, rfl | rfl⟩ := readCore_done hx h
  · exact ⟨(issued_received rx s).2.2, rfl, rfl, rfl⟩
  · exact ⟨(issued_autoClosed rx s).2.2, rfl, rfl, rfl⟩

/-- The loop that completes on `n` answered reads has added up their values and counted them. -/
theorem avgLoop_done {s t : State} {rx : Nat → Buf7} {n : Nat} (hx : AnsweredBy s rx n) (h : avgLoop n s = .done () t) :
    t.dp.acc = s.dp.acc + BitVec.ofInt 64 (readSum s.par.signMode rx n) ∧
      t.dp.cnt = s.dp.cnt + BitVec.ofNat 32 n := by
  induction n generalizing s rx with
  | zero => cases h; simp [readSum]
  | succ n ih =>
    rw [avgLoop_succ] at h
    cases hr : readCore s with
    | raised e u => rw [hr] at h; cases h
    | hung u => rw [hr] at h; cases h
    | done v u =>
      rw [hr, bind_done] at h
      have hx0 : nextXfer s = .ok (rx 0).toList := hx 0 (by omega)
      obtain ⟨rfl, -⟩ := readCore_done hx0 hr
      obtain ⟨hbus, hacc, hcnt, hpar⟩ := readCore_done_keeps hx0 hr
      obtain ⟨htacc, htcnt⟩ := ih (s := accumulate (valueOf s.par.signMode (rx 0)) u) (rx := fun k => rx (k + 1))
        (fun k hk => (hbus k).trans (hx (k + 1) (by omega))) h
      rw [accumulate_dp_acc, accumulate_par, hacc, hpar] at htacc
      rw [accumulate_dp_cnt, hcnt] at htcnt
      constructor
      · rw [htacc, readSum_succ_first, BitVec.ofInt_add, BitVec.add_assoc]
        rfl
      · rw [htcnt, BitVec.add_assoc, Nat.add_comm n 1, BitVec.ofNat_add]
        rfl

/-- Settles O52: the sum modulo 2^64 and the count modulo 2^32 are exact, since both fit. -/
theorem accumulatorExact : Obligations.AccumulatorExact := by
  refine ⟨valueOf_bounds, fun s rx n t hn hx h => ?_, fun s rx n hl ha hx => ?_⟩
  · obtain ⟨hacc, hcnt⟩ := avgLoop_done (s := clearAccumulator s) hx h
    rw [clearAccumulator_dp_acc, clearAccumulator_par, BitVec.ofNat_eq_ofNat, BitVec.zero_add] at hacc
    rw [clearAccumulator_dp_cnt, BitVec.ofNat_eq_ofNat, BitVec.zero_add] at hcnt
    refine ⟨?_, ?_, readSum_natAbs_lt _ rx hn⟩
    · rw [hacc, toInt_ofInt_readSum _ rx hn]
    · rw [hcnt, BitVec.toNat_ofNat, Nat.mod_eq_of_lt hn]
  · obtain ⟨u, hu, -⟩ := avgLoop_prefix (s := clearAccumulator s) hl ha n hx 0
    exact ⟨u, hu⟩

/-! ## READ_AVG and TARE from the average (R71, R72) -/

/-- With reads to do, the average is the accumulator divided by their number (R70). -/
theorem avgCore_of_avgLoop {n : Nat} (hn : n ≠ 0) {s t : State} (h : avgLoop n (clearAccumulator s) = .done () t) :
    avgCore n s = .done (truncDiv t.dp.acc.toInt n) t := by
  rw [avgCore, h, bind_done, if_neg hn]

theorem exec_readAvg {s : State} (hl : s.life ≠ .none) (times : Word) :
    exec (.readAvg times) s =
      .next ((avgCore times.toNat s).bind fun q s1 => .done (wrap32 q) s1).final := by
  rw [exec, execReadAvg, needsInstance_some hl, finish_eq, repeatCount]

theorem exec_tare {s : State} (hl : s.life ≠ .none) (times : Word) :
    exec (.tare times) s =
      .next ((avgCore times.toNat s).bind fun q s1 => .done 0 (setOffsetReg (wrap32 q) s1)).final := by
  rw [exec, execTare, needsInstance_some hl, finish_eq, repeatCount]

theorem exec_readAvg_done {s u : State} {times : Word} {q : Int} (hl : s.life ≠ .none)
    (h : avgCore times.toNat s = .done q u) : exec (.readAvg times) s = .next (respond (wrap32 q) u) := by
  rw [exec_readAvg hl, h, bind_done, final_done]

theorem exec_tare_done {s u : State} {times : Word} {q : Int} (hl : s.life ≠ .none)
    (h : avgCore times.toNat s = .done q u) :
    exec (.tare times) s = .next (respond 0 (setOffsetReg (wrap32 q) u)) := by
  rw [exec_tare hl, h, bind_done, final_done]

/-- The average of answered reads without auto-close (R70). -/
theorem avgCore_answered {s : State} {times : Word} {rx : Nat → Buf7} (hl : s.life = .opened)
    (ha : s.par.autoClose = false) (h0 : times ≠ 0) (hx : AnsweredBy s rx times.toNat) :
    ∃ u, avgCore times.toNat s = .done (truncDiv (readSum s.par.signMode rx times.toNat) times.toNat) u ∧
      u.arch = s.arch ∧ Issued s u (transfers (s.par.wave.sel s.gainSel) rx times.toNat) := by
  obtain ⟨u, hu, harch, hissued, -, -, hacc, -⟩ := avgLoop_prefix (s := clearAccumulator s) hl ha _ hx 0
  rw [clearAccumulator_dp_acc, clearAccumulator_par, BitVec.ofNat_eq_ofNat, BitVec.zero_add] at hacc
  have hn : times.toNat ≠ 0 := BitVec.toNat_ne_iff_ne.2 h0
  refine ⟨u, ?_, harch, hissued⟩
  rw [avgCore_of_avgLoop hn hu, hacc, toInt_ofInt_readSum _ rx times.isLt]

/-- Settles O43: the response is the average of the answered reads, and only they touched the state. -/
theorem readAvgAverages : Obligations.ReadAvgAverages := by
  intro s times rx hl ha h0 hx
  obtain ⟨u, hu, harch, hissued⟩ := avgCore_answered hl ha h0 hx
  exact ⟨_, exec_readAvg_done (by simp [hl]) hu, ⟨rfl, rfl⟩, harch, hissued.of_bus rfl⟩

/-- Settles O44: the average goes to `OFFSET` in place of the response. -/
theorem tareStoresAverage : Obligations.TareStoresAverage := by
  intro s times rx hl ha h0 hx
  obtain ⟨u, hu, harch, hissued⟩ := avgCore_answered hl ha h0 hx
  exact ⟨_, exec_tare_done (by simp [hl]) hu, ⟨rfl, rfl⟩, by rw [← harch]; rfl, hissued.of_bus rfl⟩

end Sys2Proof.Machine
end

section
/-! PROOFS. An average with auto-close (R71 (2), (3), R110): its first read closes the handle, so a second one finds
`LIFE = CLOSED`. -/

namespace Sys2Proof.Machine

/-- The state of an average after its first read, with an auto-close that succeeded (R65, R70). -/
def averagedOne (rx : Buf7) (s : State) : State :=
  accumulate (valueOf s.par.signMode rx) (autoClosed rx (clearAccumulator s))

theorem averagedOne_arch (rx : Buf7) (s : State) : (averagedOne rx s).arch = { s.arch with life := .closed } := rfl

theorem averagedOne_acc (rx : Buf7) (s : State) : (averagedOne rx s).dp.acc = sext64 (valueOf s.par.signMode rx) :=
  BitVec.zero_add _

theorem issued_averagedOne {rx : Buf7} {s : State} (hx : nextXfer s = .ok rx.toList) (hk : nextAck s = .ok) :
    Issued s (averagedOne rx s) [.busTransfer (s.par.wave.sel s.gainSel) (.ok rx.toList), .busClose .ok] := by
  have h := issued_autoClosed rx (clearAccumulator s)
  rw [show nextXfer (clearAccumulator s) = .ok rx.toList from hx,
    show nextAck (clearAccumulator s) = .ok from hk] at h
  exact h

section
variable {s : State} {rx : Buf7} (hl : s.life = .opened) (ha : s.par.autoClose = true)
  (hx : nextXfer s = .ok rx.toList) (hk : nextAck s = .ok)
include hl ha hx hk

theorem avgLoop_autoClose (k : Nat) : avgLoop (k + 1) (clearAccumulator s) = avgLoop k (averagedOne rx s) := by
  rw [avgLoop_succ, readCore_close (s := clearAccumulator s) hl ha hx hk]
  rfl

/-- The average of one read is its value (R71 (2)). -/
theorem avgCore_autoClose_one : avgCore 1 s = .done (valueOf s.par.signMode rx).toInt (averagedOne rx s) := by
  rw [avgCore_of_avgLoop one_ne_zero (avgLoop_autoClose hl ha hx hk 0), averagedOne_acc, sext64,
    BitVec.toInt_signExtend_of_le (by decide), truncDiv, Nat.cast_one, Int.tdiv_one]

/-- The average of more stops at its second read (R71 (3)). -/
theorem avgCore_autoClose_more (k : Nat) : avgCore (k + 2) s = .raised .notOpen (averagedOne rx s) := by
  rw [avgCore, avgLoop_autoClose hl ha hx hk, avgLoop_succ, readCore_closed (s := averagedOne rx s) rfl]
  rfl

end

/-- Settles O47: an average of one read, then the two commands on it; an average of more, an error for both. -/
theorem averageUnderAutoClose : Obligations.AverageUnderAutoClose := by
  intro s times rx hl ha hx hk
  have hn : s.life ≠ .none := by simp [hl]
  have hissued := issued_averagedOne hx hk
  refine ⟨?_, fun h2 i hi => ⟨raise .notOpen (averagedOne rx s), ?_, ⟨rfl, rfl⟩, rfl, hissued.of_bus rfl⟩⟩
  · rintro rfl
    have hone := avgCore_autoClose_one hl ha hx hk
    have hr := exec_readAvg_done (times := 1) hn hone
    have ht := exec_tare_done (times := 1) hn hone
    rw [wrap32, BitVec.ofInt_toInt] at hr ht
    exact ⟨⟨_, hr, ⟨rfl, rfl⟩, rfl, hissued.of_bus rfl⟩, ⟨_, ht, ⟨rfl, rfl⟩, rfl, hissued.of_bus rfl⟩⟩
  · have hmore := avgCore_autoClose_more hl ha hx hk (times.toNat - 2)
    rw [Nat.sub_add_cancel h2] at hmore
    rcases hi with rfl | rfl
    · rw [exec_readAvg hn, hmore, bind_raised, final_raised]
    · rw [exec_tare hn, hmore, bind_raised, final_raised]

end Sys2Proof.Machine
end

section
/-! PROOFS. READ_AVG and TARE of one count side by side (R75): one average, which ends both in the same error or the same
hang, or whose result the one answers and the other stores. -/

namespace Sys2Proof.Machine

/-! ## How an average can end -/

/-- A read makes no response of its own (R65). -/
theorem readCore_rspValid (s : State) : (readCore s).state.rspValid = s.rspValid := by
  rcases readCore_cases s with ⟨-, e⟩ | ⟨-, ⟨-, e⟩ | ⟨-, e⟩ | ⟨l, -, -, e⟩ |
    ⟨rx, -, ⟨-, e⟩ | ⟨-, ⟨-, e⟩ | ⟨-, e⟩ | ⟨-, e⟩⟩⟩⟩ <;> rw [e] <;> rfl

theorem avgCore_rspValid (n : Nat) (s : State) : (avgCore n s).state.rspValid = s.rspValid := by
  have hloop := avgLoop_keeps (P := fun t => t.rspValid = s.rspValid) (fun t h => (readCore_rspValid t).trans h)
    (fun _ _ h => h) n (clearAccumulator s) rfl
  refine state_bind (P := fun t => t.rspValid = s.rspValid) _ _ hloop fun _ t he => ?_
  rw [he] at hloop
  split <;> exact hloop

/-- What a read raises is an error (R65). -/
theorem readCore_raised_ne_ok {s t : State} {e : Status} (h : readCore s = .raised e t) : e ≠ .ok := by
  rcases readCore_cases s with ⟨-, e⟩ | ⟨-, ⟨-, e⟩ | ⟨-, e⟩ | ⟨l, -, -, e⟩ |
    ⟨rx, -, ⟨-, e⟩ | ⟨-, ⟨-, e⟩ | ⟨-, e⟩ | ⟨-, e⟩⟩⟩⟩ <;> rw [e] at h <;> cases h <;> decide

theorem avgLoop_raised_ne_ok {n : Nat} {s t : State} {e : Status} (h : avgLoop n s = .raised e t) : e ≠ .ok := by
  induction n generalizing s with
  | zero => cases h
  | succ n ih =>
    rw [avgLoop_succ] at h
    cases hr : readCore s with
    | done v u => rw [hr] at h; exact ih h
    | raised e' u => rw [hr] at h; cases h; exact readCore_raised_ne_ok hr
    | hung u => rw [hr] at h; cases h

theorem avgCore_raised_ne_ok {n : Nat} {s t : State} {e : Status} (h : avgCore n s = .raised e t) : e ≠ .ok := by
  rw [avgCore] at h
  cases hr : avgLoop n (clearAccumulator s) with
  | done v u =>
    rw [hr, bind_done] at h
    split at h <;> cases h
    decide
  | raised e' u => rw [hr] at h; cases h; exact avgLoop_raised_ne_ok hr
  | hung u => rw [hr] at h; cases h

theorem ReadMoves.life_ne_none {s t : State} (h : ReadMoves s t) (hl : s.life ≠ .none) : t.life ≠ .none := by
  rcases h.frame.2 with e | e <;> rw [e]
  · exact hl
  · decide

/-- Everything READ_AVG and TARE of one count can do: the same error, the same hang, or the average answered by the one
and stored by the other (R71, R72). -/
theorem exec_average_cases (times : Word) (s : State) :
    (∃ e u, e ≠ .ok ∧ exec (.readAvg times) s = .next (raise e u) ∧ exec (.tare times) s = .next (raise e u)) ∨
    (∃ u, u.rspValid = s.rspValid ∧ exec (.readAvg times) s = .next u ∧ exec (.tare times) s = .next u) ∨
    (∃ q u, u.life ≠ .none ∧ exec (.readAvg times) s = .next (respond q u) ∧
      exec (.tare times) s = .next (respond 0 (setOffsetReg q u))) := by
  by_cases hl : s.life = .none
  · refine .inl ⟨.illegalState, s, by decide, ?_, ?_⟩
    · rw [exec, execReadAvg, needsInstance_none hl]; rfl
    · rw [exec, execTare, needsInstance_none hl]; rfl
  have hmoves := avgCore_moves times.toNat s
  have hvalid := avgCore_rspValid times.toNat s
  rw [exec_readAvg hl, exec_tare hl]
  cases hr : avgCore times.toNat s with
  | done q u => rw [hr] at hmoves; exact .inr (.inr ⟨wrap32 q, u, hmoves.life_ne_none hl, rfl, rfl⟩)
  | raised e u => exact .inl ⟨e, u, avgCore_raised_ne_ok hr, rfl, rfl⟩
  | hung u => rw [hr] at hvalid; exact .inr (.inl ⟨u, hvalid, rfl, rfl⟩)

/-! ## The two offset commands after it (R76, R77) -/

theorem exec_getOffset {s : State} (hl : s.life ≠ .none) : exec .getOffset s = .next (respond s.offset s) := by
  rw [exec, execGetOffset, needsInstance_some hl]; rfl

theorem exec_setOffset {s : State} (hl : s.life ≠ .none) (v : Word) :
    exec (.setOffset v) s = .next (respond 0 (setOffsetReg v s)) := by
  rw [exec, execSetOffset, needsInstance_some hl]; rfl

/-! ## A constant transport (R75 (1)) -/

/-- The average of `n` equal values is that value. -/
theorem average_const (m : SignMode) (rx : Buf7) {n : Nat} (hn : n ≠ 0) :
    BitVec.ofInt 32 ((readSum m (fun _ => rx) n).tdiv n) = valueOf m rx := by
  rw [readSum_const, Int.mul_tdiv_cancel _ (Int.natCast_ne_zero.2 hn), BitVec.ofInt_toInt]

/-- Settles O54: equal values average to themselves; the two commands end by one average's three ways. -/
theorem tareEquivalences : Obligations.TareEquivalences := by
  refine ⟨fun s times rx hl ha h0 hx => ?_, fun s times t u hs ht hu => ?_⟩
  · have hn : times.toNat ≠ 0 := BitVec.toNat_ne_iff_ne.2 h0
    obtain ⟨t, ht, hanswer, -⟩ := readAvgAverages s times _ hl ha h0 hx
    rw [average_const _ _ hn] at hanswer
    obtain ⟨-, -, hopened⟩ := readOutcomes s
    obtain ⟨-, -, -, hread⟩ := hopened hl
    obtain ⟨hkeep, -⟩ := hread rx (hx 0 (Nat.pos_of_ne_zero hn))
    obtain ⟨u, hu, ⟨hrsp, -⟩, -⟩ := hkeep ha
    exact ⟨t, u, ht, hu, hanswer.1.trans hrsp.symm, hanswer⟩
  · rcases exec_average_cases times s with ⟨e, w, he, er, et⟩ | ⟨w, hw, er, et⟩ | ⟨q, w, hl, er, et⟩ <;>
      rw [er] at hu <;> rw [et] at ht <;> cases hu <;> cases ht
    · exact ⟨fun q hq => absurd (congrArg Response.err hq.1) he, fun _ => ⟨rfl, rfl, rfl⟩, fun _ => rfl⟩
    · exact ⟨fun q hq => absurd (hq.2.symm.trans (hw.trans hs)) (by decide), fun _ => ⟨rfl, rfl, rfl⟩, fun _ => rfl⟩
    · refine ⟨?_, fun h => absurd rfl h, fun h => by cases h⟩
      rintro q' ⟨hq, -⟩
      obtain rfl : q = q' := congrArg Response.data hq
      exact ⟨⟨_, exec_getOffset (s := respond 0 (setOffsetReg q w)) hl, rfl, rfl⟩,
        ⟨_, exec_setOffset (s := respond q w) hl q, rfl, rfl, rfl⟩⟩

end Sys2Proof.Machine
end

section
/-! PROOFS. The offset register and its subtractor (R76 to R79): the subtractor wraps the true difference to 32 bits,
and READ_NET is one read whose value goes through it. -/

namespace Sys2Proof.Machine

/-! ## The subtractor (R78) -/

/-- The subtractor is the true difference modulo 2^32 (R78). -/
theorem toInt_net (v o : Word) : (net v o).toInt = (v.toInt - o.toInt).bmod (2 ^ 32) :=
  BitVec.toInt_ofInt _

/-- It is exact where 32 bits hold the true difference (R78). -/
theorem toInt_net_of_le {v o : Word} (hlo : -(2 : Int) ^ 31 ≤ v.toInt - o.toInt)
    (hhi : v.toInt - o.toInt < (2 : Int) ^ 31) : (net v o).toInt = v.toInt - o.toInt :=
  BitVec.toInt_ofInt_eq_self (by decide) hlo hhi

/-- The least offset, `0x80000000`, adds 2^31 to the true difference; a value that is not negative then wraps (R78). -/
theorem toInt_net_least {v : Word} (h : 0 ≤ v.toInt) : (net v 0x80000000#32).toInt = v.toInt - (2 : Int) ^ 31 := by
  have hhi := v.toInt_lt
  have hleast : (0x80000000#32).toInt = -(2 : Int) ^ 31 := by decide
  have hwrap : v.toInt - -(2 : Int) ^ 31 = v.toInt - 2 ^ 31 + (2 ^ 32 : Nat) := by omega
  rw [toInt_net, hleast, hwrap, Int.add_bmod_right, Int.bmod_eq_of_le (by omega) (by omega)]

/-- Settles O33: wrapping leaves what 32 bits hold, and values and offsets of reads differ by less than 2^25. -/
theorem subtractorLaw : Obligations.SubtractorLaw := by
  refine fun v o => ⟨toInt_net v o, toInt_net_of_le, fun hv hv' ho ho' => ?_, toInt_net_least, by decide⟩
  exact toInt_net_of_le (by omega) (by omega)

/-! ## The commands on `OFFSET` (R76, R77, R79) -/

/-- Settles O28: past the instance check the write of `OFFSET` is all. -/
theorem setOffsetOutcomes : Obligations.SetOffsetOutcomes := fun s v =>
  localOutcomes_of_needsInstance (u := setOffsetReg v s) rfl rfl rfl

/-- Settles O29: past the instance check it answers `OFFSET` from the state it leaves as it is. -/
theorem getOffsetOutcomes : Obligations.GetOffsetOutcomes := fun _ => localOutcomes_of_needsInstance rfl rfl rfl

/-- A read leaves `OFFSET` (R65). -/
theorem readCore_offset (s : State) : (readCore s).state.offset = s.offset :=
  congrArg Arch.offset (readCore_moves s).frame.1

/-- Settles O41: READ_NET is one read, and the `OFFSET` it subtracts is the one from before the read. -/
theorem readNetOutcomes : Obligations.ReadNetOutcomes := by
  refine fun s => singleReadOutcomes_of_exec rfl fun v s1 h => ?_
  have ho : s1.offset = s.offset := by simpa [h] using readCore_offset s
  rw [ho]

end Sys2Proof.Machine
end

section
/-! PROOFS. The offset enters a result only through READ_NET and GET_OFFSET (R80): every other command runs alike from
two states that differ in `OFFSET`, and where it writes `OFFSET` the states it leaves are the same. -/

namespace Sys2Proof.Machine

/-- The states differ at most in `OFFSET`, and not even in it once the first no longer holds `a`, the value both runs
are compared from: then both have written it. -/
def SameButOffset (a : Word) (s u : State) : Prop :=
  (∃ o, u = { s with offset := o }) ∧ (s.offset ≠ a → u = s)

theorem sameButOffset_start (s : State) (o : Word) : SameButOffset s.offset s { s with offset := o } :=
  ⟨⟨o, rfl⟩, fun h => absurd rfl h⟩

theorem sameButOffset_refl (a : Word) (s : State) : SameButOffset a s s := ⟨⟨s.offset, rfl⟩, fun _ => rfl⟩

section
variable {a : Word} {s u : State}

/-- An operation that neither reads nor writes `OFFSET` takes such states to such states. -/
theorem SameButOffset.map {f : State → State} (h : SameButOffset a s u)
    (hread : ∀ o, f { s with offset := o } = { f s with offset := o }) (hwrite : (f s).offset = s.offset) :
    SameButOffset a (f s) (f u) := by
  obtain ⟨⟨o, rfl⟩, hsame⟩ := h
  exact ⟨⟨o, hread o⟩, fun hne => congrArg f (hsame (hwrite ▸ hne))⟩

/-- A write of `OFFSET` makes them the same. -/
theorem setOffsetReg_sameButOffset (v : Word) (h : SameButOffset a s u) :
    SameButOffset a (setOffsetReg v s) (setOffsetReg v u) := by
  obtain ⟨⟨o, rfl⟩, -⟩ := h
  exact sameButOffset_refl a _

theorem keptByReads_sameButOffset (a : Word) : KeptByReads (SameButOffset a) where
  life := by rintro s _ ⟨⟨o, rfl⟩, -⟩; rfl
  par := by rintro s _ ⟨⟨o, rfl⟩, -⟩; rfl
  bus := by rintro s _ ⟨⟨o, rfl⟩, -⟩; rfl
  sent h := h.map (fun _ => rfl) rfl
  loadResponse rx h := h.map (f := loadResponse rx) (fun _ => rfl) rfl
  closedHandle h := h.map (fun _ => rfl) rfl

theorem avgCore_sameButOffset (n : Nat) (h : SameButOffset a s u) :
    (avgCore n s).Alike (SameButOffset a) (avgCore n u) :=
  avgCore_alike (keptByReads_sameButOffset a) (fun v _ _ h => h.map (f := accumulate v) (fun _ => rfl) rfl)
    (by rintro s _ ⟨⟨o, rfl⟩, -⟩; rfl) n (h.map (fun _ => rfl) rfl)

/-- OPEN's sequence writes `OFFSET` where it succeeds, and only there (R53). -/
theorem openSequence_sameButOffset (g : Gain) (h : SameButOffset a s u) :
    (openSequence g s).Alike (SameButOffset a) (openSequence g u) := by
  have hdone : constructed g u = constructed g s := by obtain ⟨⟨o, rfl⟩, -⟩ := h; rfl
  exact openSequence_alike g ((keptByReads_sameButOffset a).bus h) (h.map (fun _ => rfl) rfl)
    (h.map (fun _ => rfl) rfl) (h.map (fun _ => rfl) rfl) (hdone ▸ sameButOffset_refl a _)

theorem final_sameButOffset {r r' : Ran Word} (h : r.Alike (SameButOffset a) r') : SameButOffset a r.final r'.final :=
  h.final fun x _ _ h => h.map (f := endCommand x) (fun _ => rfl) rfl

/-- A command that starts with the check of R55 runs alike where its body does. -/
theorem needsInstance_sameButOffset {f : State → Ran Word} (h : SameButOffset a s u)
    (hf : (f s).Alike (SameButOffset a) (f u)) :
    SameButOffset a (needsInstance s f).final (needsInstance u f).final :=
  final_sameButOffset (needsInstance_alike ((keptByReads_sameButOffset a).life h) h hf)

theorem execOpen_sameButOffset {tag : BitVec 2} {s' u' : State} (h : SameButOffset a s u)
    (hs : exec (.openBus tag) s = .next s') (hu : exec (.openBus tag) u = .next u') : SameButOffset a s' u' := by
  cases hs; cases hu
  refine final_sameButOffset ?_
  rw [(keptByReads_sameButOffset a).life h]
  cases Gain.ofTag tag with
  | none => exact .raised h
  | some g =>
    cases s.life with
    | opened => exact .raised h
    | none => exact openSequence_sameButOffset g h
    | closed => exact openSequence_sameButOffset g h

theorem execClose_sameButOffset {s' u' : State} (h : SameButOffset a s u) (hs : exec .close s = .next s')
    (hu : exec .close u = .next u') : SameButOffset a s' u' := by
  cases hs; cases hu
  refine final_sameButOffset ?_
  rw [(keptByReads_sameButOffset a).life h]
  cases s.life with
  | none => exact .raised h
  | closed => exact .done h
  | opened => exact releaseHandle_alike (keptByReads_sameButOffset a) h

/-- Every command but READ_NET and GET_OFFSET takes states that differ in `OFFSET` to such states (R80). -/
theorem exec_sameButOffset {i : Instr} {s' u' : State} (hnet : i ≠ .readNet) (hget : i ≠ .getOffset)
    (h : SameButOffset a s u) (hs : exec i s = .next s') (hu : exec i u = .next u') : SameButOffset a s' u' := by
  cases i with
  | readNet => exact absurd rfl hnet
  | getOffset => exact absurd rfl hget
  | openBus tag => exact execOpen_sameButOffset h hs hu
  | close => exact execClose_sameButOffset h hs hu
  | setGain tag =>
    cases hs; cases hu
    cases Gain.ofTag tag with
    | none => exact final_sameButOffset (.raised h)
    | some g => exact needsInstance_sameButOffset h (.done (h.map (f := setGainSel g) (fun _ => rfl) rfl))
  | setOffset value =>
    cases hs; cases hu
    exact needsInstance_sameButOffset h (.done (setOffsetReg_sameButOffset value h))
  | read => cases hs; cases hu; exact needsInstance_sameButOffset h (readCore_alike (keptByReads_sameButOffset a) h)
  | readAvg times =>
    cases hs; cases hu
    exact needsInstance_sameButOffset h ((avgCore_sameButOffset _ h).bind fun _ _ _ h1 => .done h1)
  | tare times =>
    cases hs; cases hu
    exact needsInstance_sameButOffset h
      ((avgCore_sameButOffset _ h).bind fun _ _ _ h1 => .done (setOffsetReg_sameButOffset _ h1))
  | isReady => cases hs; cases hu; exact needsInstance_sameButOffset h (.done h)
  | powerDown => cases hs; cases hu; exact needsInstance_sameButOffset h (.done h)
  | powerUp => cases hs; cases hu; exact needsInstance_sameButOffset h (.done h)

end

/-- Settles O56: the runs end in states that differ in `OFFSET` only, and not in it once it was written. -/
theorem offsetNotApplied : Obligations.OffsetNotApplied := by
  intro i s t u o hnet hget ht hu
  obtain ⟨⟨o', rfl⟩, hsame⟩ := exec_sameButOffset hnet hget (sameButOffset_start s o) ht hu
  exact ⟨rfl, rfl, rfl, rfl, fun h => congrArg State.offset (hsame h)⟩

end Sys2Proof.Machine
end

section
/-! PROOFS. The status and power stubs (R81 to R83). What POWER_DOWN leaves behind is what ending any command leaves:
the response presented and the transients cleared. No command reads either, so the next one runs as if without it. -/

namespace Sys2Proof.Machine

/-- Settles O30: past the instance check it answers the ready indication from the state it leaves as it is. -/
theorem isReadyOutcomes : Obligations.IsReadyOutcomes := fun _ => localOutcomes_of_needsInstance rfl rfl rfl

/-- Settles O32: past the instance check it answers 0 from the state it leaves as it is. -/
theorem powerUpChangesNothing : Obligations.PowerUpChangesNothing := fun _ => localOutcomes_of_needsInstance rfl rfl rfl

/-! ## Relations every command keeps -/

/-- A relation that every command keeps: related states hold alike all that a command looks at, and each operation of
the commands takes related states to related ones. -/
structure KeptByCommands (R : State → State → Prop) : Prop extends KeptByReads R where
  offset : ∀ {s u}, R s u → u.offset = s.offset
  acc : ∀ {s u}, R s u → u.dp.acc = s.dp.acc
  clearAccumulator : ∀ {s u}, R s u → R (clearAccumulator s) (clearAccumulator u)
  accumulate : ∀ v {s u}, R s u → R (accumulate v s) (accumulate v u)
  setGainSel : ∀ g {s u}, R s u → R (setGainSel g s) (setGainSel g u)
  setOffsetReg : ∀ v {s u}, R s u → R (setOffsetReg v s) (setOffsetReg v u)
  busOpen : ∀ {s u}, R s u → R (busOpen s) (busOpen u)
  configured : ∀ {s u}, R s u → R (configured s) (configured u)
  cleanedUp : ∀ {s u}, R s u → R (cleanedUp s) (cleanedUp u)
  constructed : ∀ g {s u}, R s u → R (constructed g s) (constructed g u)
  endCommand : ∀ r {s u}, R s u → R (endCommand r s) (endCommand r u)

namespace KeptByCommands
variable {R : State → State → Prop} {s u s' u' : State}

theorem final (hR : KeptByCommands R) {r r' : Ran Word} (h : r.Alike R r') : R r.final r'.final :=
  Ran.Alike.final h hR.endCommand

/-- A command that starts with the check of R55 runs alike where its body does. -/
theorem needsInstance (hR : KeptByCommands R) {f : State → Ran Word} (h : R s u) (hf : (f s).Alike R (f u)) :
    R (needsInstance s f).final (needsInstance u f).final :=
  hR.final (needsInstance_alike (hR.life h) h hf)

theorem openSequence (hR : KeptByCommands R) (g : Gain) (h : R s u) :
    (openSequence g s).Alike R (openSequence g u) :=
  openSequence_alike g (hR.bus h) (hR.busOpen h) (hR.configured h) (hR.cleanedUp h) (hR.constructed g h)

theorem avgCore (hR : KeptByCommands R) (n : Nat) (h : R s u) : (avgCore n s).Alike R (avgCore n u) :=
  avgCore_alike hR.toKeptByReads hR.accumulate hR.acc n (hR.clearAccumulator h)

theorem execOpen (hR : KeptByCommands R) {tag : BitVec 2} (h : R s u) (hs : exec (.openBus tag) s = .next s')
    (hu : exec (.openBus tag) u = .next u') : R s' u' := by
  cases hs; cases hu
  refine hR.final ?_
  rw [hR.life h]
  cases Gain.ofTag tag with
  | none => exact .raised h
  | some g =>
    cases s.life with
    | opened => exact .raised h
    | none => exact hR.openSequence g h
    | closed => exact hR.openSequence g h

theorem execClose (hR : KeptByCommands R) (h : R s u) (hs : exec .close s = .next s')
    (hu : exec .close u = .next u') : R s' u' := by
  cases hs; cases hu
  refine hR.final ?_
  rw [hR.life h]
  cases s.life with
  | none => exact .raised h
  | closed => exact .done h
  | opened => exact releaseHandle_alike hR.toKeptByReads h

theorem exec (hR : KeptByCommands R) {i : Instr} (h : R s u) (hs : exec i s = .next s')
    (hu : exec i u = .next u') : R s' u' := by
  have hread : (readCore s).Alike R (readCore u) := readCore_alike hR.toKeptByReads h
  cases i with
  | openBus tag => exact hR.execOpen h hs hu
  | close => exact hR.execClose h hs hu
  | setGain tag =>
    cases hs; cases hu
    cases Gain.ofTag tag with
    | none => exact hR.endCommand _ h
    | some g => exact hR.needsInstance h (.done (hR.setGainSel g h))
  | setOffset value => cases hs; cases hu; exact hR.needsInstance h (.done (hR.setOffsetReg value h))
  | getOffset => cases hs; cases hu; exact hR.needsInstance h (hR.offset h ▸ .done h)
  | read => cases hs; cases hu; exact hR.needsInstance h hread
  | readNet =>
    cases hs; cases hu
    exact hR.needsInstance h (hread.bind fun _ _ _ h1 => hR.offset h1 ▸ .done h1)
  | readAvg times => cases hs; cases hu; exact hR.needsInstance h ((hR.avgCore _ h).bind fun _ _ _ h1 => .done h1)
  | tare times =>
    cases hs; cases hu
    exact hR.needsInstance h ((hR.avgCore _ h).bind fun _ _ _ h1 => .done (hR.setOffsetReg _ h1))
  | isReady => cases hs; cases hu; exact hR.needsInstance h (.done h)
  | powerDown => cases hs; cases hu; exact hR.needsInstance h (.done h)
  | powerUp => cases hs; cases hu; exact hR.needsInstance h (.done h)

end KeptByCommands

/-! ## The response registers are not read (R22, R45) -/

/-- The states differ at most in the response presented, and not even in it once `rsp_valid` of the first is no longer
`b`, its value at the start: then both runs have ended with a response, the same one. -/
def SameButResponse (b : Bool) (s u : State) : Prop :=
  (∃ r v, u = { s with rsp := r, rspValid := v }) ∧ (s.rspValid ≠ b → u = s)

/-- An operation that neither reads nor writes the response registers takes such states to such states. -/
theorem SameButResponse.map {b : Bool} {s u : State} {f : State → State} (h : SameButResponse b s u)
    (hread : ∀ r v, f { s with rsp := r, rspValid := v } = { f s with rsp := r, rspValid := v })
    (hwrite : (f s).rspValid = s.rspValid) : SameButResponse b (f s) (f u) := by
  obtain ⟨⟨r, v, rfl⟩, hsame⟩ := h
  exact ⟨⟨r, v, hread r v⟩, fun hne => congrArg f (hsame (hwrite ▸ hne))⟩

/-- Ending a command writes the response registers, and so makes the states the same. -/
theorem endCommand_sameButResponse {b : Bool} {s u : State} (r : Response) (h : SameButResponse b s u) :
    SameButResponse b (endCommand r s) (endCommand r u) := by
  obtain ⟨⟨r', v, rfl⟩, -⟩ := h
  exact ⟨⟨r, true, rfl⟩, fun _ => rfl⟩

theorem keptByCommands_sameButResponse (b : Bool) : KeptByCommands (SameButResponse b) where
  life := by rintro s _ ⟨⟨r, v, rfl⟩, -⟩; rfl
  par := by rintro s _ ⟨⟨r, v, rfl⟩, -⟩; rfl
  bus := by rintro s _ ⟨⟨r, v, rfl⟩, -⟩; rfl
  offset := by rintro s _ ⟨⟨r, v, rfl⟩, -⟩; rfl
  acc := by rintro s _ ⟨⟨r, v, rfl⟩, -⟩; rfl
  sent h := h.map (fun _ _ => rfl) rfl
  loadResponse rx h := h.map (f := loadResponse rx) (fun _ _ => rfl) rfl
  closedHandle h := h.map (fun _ _ => rfl) rfl
  clearAccumulator h := h.map (fun _ _ => rfl) rfl
  accumulate v _ _ h := h.map (f := accumulate v) (fun _ _ => rfl) rfl
  setGainSel g _ _ h := h.map (f := setGainSel g) (fun _ _ => rfl) rfl
  setOffsetReg v _ _ h := h.map (f := setOffsetReg v) (fun _ _ => rfl) rfl
  busOpen h := h.map (fun _ _ => rfl) rfl
  configured h := h.map (fun _ _ => rfl) rfl
  cleanedUp h := h.map (fun _ _ => rfl) rfl
  constructed g _ _ h := h.map (f := constructed g) (fun _ _ => rfl) rfl
  endCommand r _ _ h := endCommand_sameButResponse r h

/-! ## POWER_DOWN (R82) -/

/-- A command run after another has merely ended, with whatever response, has the view and the transactions it would
have had without it, and the response too, where it makes one. -/
theorem exec_after_endCommand {i : Instr} {r : Response} {s u v : State} (hu : exec i s = .next u)
    (hv : exec i (endCommand r s) = .next v) :
    v.arch = u.arch ∧ v.bus = u.bus ∧ (u.rspValid = true → s.rspValid = false → v.rsp = u.rsp) := by
  obtain ⟨w, hw⟩ := exec_eq_next i { s with dp := Datapath.cleared }
  have hstart : SameButResponse s.rspValid { s with dp := Datapath.cleared } (endCommand r s) :=
    ⟨⟨r, true, rfl⟩, fun h => absurd rfl h⟩
  obtain ⟨d, rfl⟩ := exec_transients ⟨_, rfl⟩ hu hw
  obtain ⟨⟨r', x, rfl⟩, hsame⟩ := (keptByCommands_sameButResponse _).exec hstart hw hv
  refine ⟨rfl, rfl, fun hvalid hs => ?_⟩
  have hne : u.rspValid ≠ s.rspValid := by simp [hvalid, hs]
  exact (congrArg State.rsp (hsame hne) :)

/-- POWER_DOWN only ends, refused or completed. -/
theorem exec_powerDown (s : State) : ∃ r, exec .powerDown s = .next (endCommand r s) := by
  by_cases hl : s.life = .none
  · exact ⟨⟨.illegalState, 0⟩, congrArg finish (needsInstance_none hl _)⟩
  · exact ⟨⟨.ok, 0⟩, congrArg finish (needsInstance_some hl _)⟩

/-- Settles O31: POWER_DOWN only ends, and no command can tell that one ended before it. -/
theorem powerDownChangesNothing : Obligations.PowerDownChangesNothing := by
  refine fun s => ⟨localOutcomes_of_needsInstance rfl rfl rfl, fun i t u v ht hu hv => ?_⟩
  obtain ⟨r, hr⟩ := exec_powerDown s
  cases hr.symm.trans ht
  exact exec_after_endCommand hu hv

end Sys2Proof.Machine
end

section
/-! PROOFS. CLOSE (R84): an equation for `CLOSED` and one for `OPEN`, where the release of the handle is the auto-close
of a read whose value is 0. -/

namespace Sys2Proof.Machine

theorem exec_close_closed {s : State} (hl : s.life = .closed) : exec .close s = .next (respond 0 s) := by
  simp [exec, execClose, hl]

theorem exec_close_opened {s : State} (hl : s.life = .opened) : exec .close s = .next (autoClose 0 s).final := by
  simp only [exec, execClose, hl, finish_eq]
  rfl

/-- Settles O24: the three values of `LIFE`, and in `OPEN` the answer to the one close. -/
theorem closeOutcomes : Obligations.CloseOutcomes := by
  refine fun s => ⟨fun hl => ⟨_, exec_of_none rfl rfl hl, ⟨rfl, rfl⟩, rfl, rfl⟩,
    fun hl => ⟨_, exec_close_closed hl, ⟨rfl, rfl⟩, rfl, rfl⟩, fun hl => ?_⟩
  have he := exec_close_opened hl
  have hi := issued_closedHandle s
  refine ⟨fun hk => ?_, fun hk => ?_, fun hk => ?_⟩ <;> rw [hk] at hi
  · rw [autoClose_closes 0 hk] at he
    exact ⟨_, he, ⟨rfl, rfl⟩, closedHandle_arch s, hi.of_bus rfl⟩
  · rw [autoClose_fails 0 hk] at he
    exact ⟨_, he, ⟨rfl, rfl⟩, closedHandle_arch s, hi.of_bus rfl⟩
  · rw [autoClose_unanswered 0 hk] at he
    exact ⟨_, he, ⟨rfl, rfl⟩, closedHandle_arch s, hi⟩

end Sys2Proof.Machine
end

section
/-! PROOFS. The close law (R85): after a close the handle is released, and a released handle can only be opened; and a
command that neither opens nor finds the handle open does not reach the port. -/

namespace Sys2Proof.Machine

/-! ## Closes on the trace -/

/-- Where the protocol allows a close, it releases the handle. -/
theorem after_busClose {p q : BusPhase} {a : Ack} (h : p.after (.busClose a) = some q) : q = .released := by
  cases p <;> cases h <;> rfl

/-- A released handle can only be opened (R35). -/
theorem isOpen_of_after_released {q : BusPhase} {e : BusEvent} (h : BusPhase.released.after e = some q) :
    e.isOpen = true := by
  cases e with
  | busOpen name a => rfl
  | _ => cases h

/-- The first of the transactions the protocol allows from a released handle is an open. -/
theorem isOpen_head_of_released {e : BusEvent} {es : List BusEvent}
    (h : (busPhaseFrom .released (e :: es)).isSome = true) : e.isOpen = true := by
  obtain ⟨p, hp⟩ := Option.isSome_iff_exists.1 h
  obtain ⟨q, hq, -⟩ := Option.bind_eq_some_iff.1 hp
  exact isOpen_of_after_released hq

/-- What the protocol allows after a close, it allows from a released handle. -/
theorem released_after_busClose {p : BusPhase} {pre es : List BusEvent} {a : Ack}
    (h : (busPhaseFrom p (pre ++ .busClose a :: es)).isSome = true) : (busPhaseFrom .released es).isSome = true := by
  obtain ⟨r, hr⟩ := Option.isSome_iff_exists.1 h
  rw [busPhaseFrom_append] at hr
  obtain ⟨q, -, hq⟩ := Option.bind_eq_some_iff.1 hr
  obtain ⟨q', hclose, hrest⟩ := Option.bind_eq_some_iff.1 hq
  rw [after_busClose hclose] at hrest
  exact Option.isSome_iff_exists.2 ⟨r, hrest⟩

theorem open_between_closes {p : BusPhase} {pre mid post : List BusEvent} {a b : Ack}
    (h : (busPhaseFrom p (pre ++ .busClose a :: mid ++ .busClose b :: post)).isSome = true) :
    ∃ e ∈ mid, BusEvent.isOpen e = true := by
  rw [List.append_assoc, List.cons_append] at h
  have hmid := released_after_busClose h
  cases mid with
  | nil => cases isOpen_head_of_released hmid
  | cons e mid => exact ⟨e, List.mem_cons_self, isOpen_head_of_released hmid⟩

/-! ## Commands that do not reach the handle -/

/-- The port and `LIFE` are as they were, and an error carries data 0 (R10). -/
def LeavesHandle (s t : State) : Prop :=
  t.bus = s.bus ∧ t.life = s.life ∧ (t.rsp.err ≠ .ok → t.rsp.data = 0)

theorem LeavesHandle.raise (e : Status) (s : State) : LeavesHandle s (raise e s) := ⟨rfl, rfl, fun _ => rfl⟩

theorem LeavesHandle.of_needsInstance {s u : State} {f : State → Ran Word} {data : Word} (hf : f s = .done data u)
    (hb : u.bus = s.bus) (hl : u.life = s.life) : LeavesHandle s (needsInstance s f).final := by
  by_cases hn : s.life = .none
  · rw [needsInstance_none hn]; exact .raise _ s
  · rw [needsInstance_some hn, hf]; exact ⟨hb, hl, fun h => absurd rfl h⟩

/-- A command that neither opens, reads nor closes touches registers only (R57, R76, R77, R81 to R83). -/
theorem exec_leavesHandle {i : Instr} {s t : State} (hi : isOpenCmd i = false) (hr : reading i = false)
    (hc : i ≠ .close) (h : exec i s = .next t) : LeavesHandle s t := by
  cases i with
  | openBus tag => cases hi
  | close => exact absurd rfl hc
  | setGain tag =>
    cases h
    cases Gain.ofTag tag with
    | none => exact .raise _ s
    | some g => exact .of_needsInstance rfl rfl rfl
  | setOffset value => cases h; exact .of_needsInstance rfl rfl rfl
  | getOffset => cases h; exact .of_needsInstance rfl rfl rfl
  | isReady => cases h; exact .of_needsInstance rfl rfl rfl
  | powerDown => cases h; exact .of_needsInstance rfl rfl rfl
  | powerUp => cases h; exact .of_needsInstance rfl rfl rfl
  | _ => cases hr

theorem exec_bus_of_closed {i : Instr} {s t : State} (hi : isOpenCmd i = false) (hl : s.life = .closed)
    (h : exec i s = .next t) : t.bus = s.bus := by
  cases hr : reading i with
  | true =>
    obtain ⟨d, hd⟩ := exec_reading_closed hr hl
    cases hd.symm.trans h
    rfl
  | false =>
    by_cases hc : i = .close
    · subst hc
      cases (exec_close_closed hl).symm.trans h
      rfl
    · exact (exec_leavesHandle hi hr hc h).1

/-- Settles O26: the protocol of the trace, and `NONE` and `CLOSED` one by one. -/
theorem atMostOneCloseBetweenOpens : Obligations.AtMostOneCloseBetweenOpens := by
  refine ⟨fun s hs pre mid post a b ht => ?_, fun i s t hi hl h => ?_⟩
  · have hp := hs.protocol
    rw [State.phase, ht] at hp
    exact open_between_closes hp
  · cases hs : s.life with
    | none =>
      obtain ⟨e, he⟩ := exec_unbuilt hi
      cases (he s hs).symm.trans h
      rfl
    | opened => exact absurd hs hl
    | closed => exact exec_bus_of_closed hi hs h

end Sys2Proof.Machine
end

section
/-! PROOFS. The invariant over a step. `Tracked` is what every piece of a command keeps, ended or hung: `LIFE` tells
where the handle is. The one exception is an OPEN whose configure is never answered, and that one hangs. -/

namespace Sys2Proof.Machine

/-- `LIFE` tells whether the handle is held (R14, R85), and an error in the response registers has data 0 (R10). -/
structure Tracked (s : State) : Prop where
  handle : s.phase = some s.life.phase
  errorData : s.rsp.err ≠ .ok → s.rsp.data = 0

/-- An OPEN that waits for ever for the answer to its configure (R53, R102). -/
structure WaitsForConfigure (s t : State) : Prop where
  phase : t.phase = some .acquired
  waits : Waits s t

/-! ## The pieces of a command -/

theorem Tracked.of_issued {s t : State} {es : List BusEvent} (h : Tracked s) (hi : Issued s t es)
    (hp : busPhaseFrom s.life.phase es = some t.life.phase) (hr : t.rsp = s.rsp) : Tracked t where
  handle := by rw [phase_of_issued hi, h.handle]; exact hp
  errorData := by rw [hr]; exact h.errorData

/-- Ending a command keeps it: `respond` answers no error, and `raise` one with data 0 (R10). -/
theorem Tracked.final {r : Ran Word} (h : Tracked r.state) : Tracked r.final := by
  cases r with
  | done data s => exact ⟨h.handle, fun he => absurd rfl he⟩
  | raised e s => exact ⟨h.handle, fun _ => rfl⟩
  | hung s => exact h

theorem Tracked.of_needsInstance {s : State} {f : State → Ran Word} (h : Tracked s)
    (hf : s.life ≠ .none → Tracked (f s).state) : Tracked (needsInstance s f).state := by
  by_cases hl : s.life = .none
  · rw [needsInstance_none hl]; exact h
  · rw [needsInstance_some hl]; exact hf hl

/-- What follows a piece of a command without using the port, `LIFE` or the response registers keeps it. -/
theorem Tracked.bind {α β : Type} {r : Ran α} {f : α → State → Ran β} (h : Tracked r.state)
    (hf : ∀ a t, Tracked t → Tracked (f a t).state) : Tracked (r.bind f).state := by
  refine state_bind r f h fun a t he => hf a t ?_
  rwa [he] at h

theorem readCore_tracked {s : State} (h : Tracked s) (hl : s.life ≠ .none) : Tracked (readCore s).state := by
  rcases readCore_cases s with ⟨-, e⟩ | ⟨hc, hread⟩
  · rw [e]; exact h
  have hopened : s.life = .opened := by
    cases hs : s.life with
    | none => exact absurd hs hl
    | opened => rfl
    | closed => exact absurd hs hc
  -- a transfer leaves the handle held, a close releases it, whatever they are answered
  have hsent : Tracked (sent s) := h.of_issued (issued_sent s) (by rw [sent_life, hopened]; rfl) rfl
  have hclosed : ∀ rx, Tracked (autoClosed rx s) := fun rx =>
    h.of_issued (issued_autoClosed rx s) (by rw [autoClosed_life, hopened]; rfl) rfl
  rcases hread with ⟨-, e⟩ | ⟨-, e⟩ | ⟨l, -, -, e⟩ | ⟨rx, -, ⟨-, e⟩ | ⟨-, ⟨-, e⟩ | ⟨-, e⟩ | ⟨-, e⟩⟩⟩ <;> rw [e]
  · exact hsent
  · exact hsent
  · exact hsent
  · exact ⟨hsent.handle, hsent.errorData⟩
  all_goals exact hclosed rx

theorem avgCore_tracked (n : Nat) {s : State} (h : Tracked s) (hl : s.life ≠ .none) :
    Tracked (avgCore n s).state := by
  have hloop := avgLoop_keeps (P := fun t => Tracked t ∧ t.life ≠ .none)
    (fun t ht => ⟨readCore_tracked ht.1 ht.2, (readCore_moves t).life_ne_none ht.2⟩)
    (fun _ _ ht => ⟨⟨ht.1.handle, ht.1.errorData⟩, ht.2⟩) n (clearAccumulator s) ⟨⟨h.handle, h.errorData⟩, hl⟩
  refine hloop.1.bind fun _ t ht => ?_
  split <;> exact ht

theorem releaseHandle_tracked {s : State} (h : Tracked s) (hl : s.life = .opened) :
    Tracked (releaseHandle s).state := by
  have hclosed : Tracked (closedHandle s) := h.of_issued (issued_closedHandle s) (by rw [hl]; rfl) rfl
  rcases releaseHandle_cases s with ⟨-, e⟩ | ⟨-, e⟩ | ⟨-, e⟩ <;> rw [e] <;> exact hclosed

/-! ## Commands -/

theorem exec_reading_tracked {i : Instr} {s t : State} (hi : reading i = true) (h : exec i s = .next t)
    (hs : Tracked s) : Tracked t := by
  cases i with
  | read => cases h; exact .final (hs.of_needsInstance fun hl => readCore_tracked hs hl)
  | readNet =>
    cases h
    exact .final (hs.of_needsInstance fun hl => (readCore_tracked hs hl).bind fun _ _ ht => ht)
  | readAvg times =>
    cases h
    exact .final (hs.of_needsInstance fun hl => (avgCore_tracked _ hs hl).bind fun _ _ ht => ht)
  | tare times =>
    cases h
    exact .final (hs.of_needsInstance fun hl => (avgCore_tracked _ hs hl).bind fun _ _ ht =>
      ⟨ht.handle, ht.errorData⟩)
  | _ => cases hi

theorem execClose_tracked {s t : State} (h : exec .close s = .next t) (hs : Tracked s) : Tracked t := by
  cases h
  refine .final ?_
  cases hl : s.life with
  | none => exact hs
  | closed => exact hs
  | opened => exact releaseHandle_tracked hs hl

theorem phase_of_ne_opened {l : Life} (h : l ≠ .opened) : l.phase = .released := by
  cases l with
  | opened => exact absurd rfl h
  | none => rfl
  | closed => rfl

/-- OPEN's bus sequence starts where no handle is held; it ends with the handle held and `LIFE = OPEN`, or released
again and `LIFE` as it was, unless its configure is never answered (R53, R54). -/
theorem openSequence_tracked (g : Gain) {s : State} (h : Tracked s) (hl : s.life ≠ .opened) :
    Tracked (openSequence g s).final ∨ WaitsForConfigure s (openSequence g s).final := by
  have hp := phase_of_ne_opened hl
  have hback : ∀ {t es}, Issued s t es → t.life = s.life → t.rsp = s.rsp →
      busPhaseFrom .released es = some .released → Tracked t := fun hi hlife hr he =>
    h.of_issued hi (by rw [hlife, hp]; exact he) hr
  have hopen := issued_busOpen s
  have hconf := issued_configured s
  have hclean := issued_cleanedUp s
  have hcons := issued_constructed g s
  rcases openSequence_cases g s with ⟨h0, e⟩ | ⟨h0, e⟩ | ⟨h0, ⟨h1, e⟩ | ⟨h1, -, e⟩ | ⟨h1, -, e⟩ | ⟨h1, e⟩⟩ <;> rw [e]
  · rw [nextAck, h0] at hopen
    exact .inl (.final (r := .hung _) (hback hopen rfl rfl rfl))
  · rw [nextAck, h0] at hopen
    exact .inl (.final (r := .raised _ _) (hback hopen rfl rfl rfl))
  · rw [h0, h1] at hconf
    exact .inr ⟨by rw [final_hung, phase_of_issued hconf, h.handle, hp]; rfl, rfl, rfl⟩
  · rw [h0, h1] at hclean
    exact .inl (.final (r := .hung _) (hback hclean rfl rfl rfl))
  · rw [h0, h1] at hclean
    exact .inl (.final (r := .raised _ _) (hback hclean rfl rfl rfl))
  · rw [h0, h1] at hcons
    exact .inl (.final (r := .done _ _) (h.of_issued hcons (by rw [hp]; rfl) rfl))

theorem execOpen_tracked {tag : BitVec 2} {s t : State} (h : exec (.openBus tag) s = .next t) (hs : Tracked s) :
    Tracked t ∨ WaitsForConfigure s t := by
  rcases execOpen_cases tag s with ⟨-, e⟩ | ⟨g, -, ⟨-, e⟩ | ⟨hl, e⟩⟩ <;> cases e.symm.trans h
  · exact .inl (.final (r := .raised _ s) hs)
  · exact .inl (.final (r := .raised _ s) hs)
  · exact openSequence_tracked g hs hl

/-- After any command `LIFE` still tells where the handle is, or the command is an OPEN that hangs. -/
theorem exec_tracked {i : Instr} {s t : State} (h : exec i s = .next t) (hs : Tracked s) :
    Tracked t ∨ WaitsForConfigure s t := by
  cases hi : isOpenCmd i with
  | true =>
    cases i with
    | openBus tag => exact execOpen_tracked h hs
    | _ => cases hi
  | false =>
    refine .inl ?_
    cases hr : reading i with
    | true => exact exec_reading_tracked hr h hs
    | false =>
      by_cases hc : i = .close
      · subst hc
        exact execClose_tracked h hs
      · obtain ⟨hbus, hlife, herr⟩ := exec_leavesHandle hi hr hc h
        exact ⟨by rw [State.phase, hbus, hlife]; exact hs.handle, herr⟩

/-! ## The step -/

/-- Between commands no response is presented, so nothing hangs (R19, R45). -/
theorem State.Inv.tracked {s : State} (h : s.Inv) (hb : s.busy = false) : Tracked s :=
  ⟨h.handle (by rw [State.hung, hb, Bool.false_and]), h.errorData⟩

theorem takeResponse_inv {s : State} (h : s.Inv) (hv : s.rspValid = true) : (takeResponse s).Inv where
  handshake := fun hn => by cases hn
  protocol := h.protocol
  handle := fun _ => h.handle (by rw [State.hung, hv, Bool.not_true, Bool.and_false])
  waveform := h.waveform
  errorData := h.errorData
  errorsTaken := fun r hr => by
    rcases List.mem_append.1 hr with hr | hr
    · exact h.errorsTaken r hr
    · rw [List.mem_singleton.1 hr]; exact h.errorData

/-- The state a running command leaves: what it says of the handle, and the frame of the command (R13). -/
theorem inv_of_running {s t : State} (h : s.Inv) (hbusy : t.busy = true) (hpar : t.par = s.par)
    (hresp : t.responses = s.responses) (hp : t.phase.isSome = true)
    (hh : t.hung = false → t.phase = some t.life.phase) (he : t.rsp.err ≠ .ok → t.rsp.data = 0) : t.Inv where
  handshake := fun _ => hbusy
  protocol := hp
  handle := hh
  waveform := by rw [hpar]; exact h.waveform
  errorData := he
  errorsTaken := by rw [hresp]; exact h.errorsTaken

theorem exec_inv {i : Instr} {s t : State} (hs : s.Inv) (hb : s.busy = false) (h : exec i (accept s) = .next t) :
    t.Inv := by
  have hidle := hs.tracked hb
  have hframe := exec_frame h
  have hbusy : t.busy = true := congrArg Arch.busy hframe
  have hinv := inv_of_running hs hbusy (congrArg Arch.par hframe) (congrArg Arch.responses hframe)
  rcases exec_tracked h ⟨hidle.handle, hidle.errorData⟩ with ht | ⟨hphase, hrsp, hvalid⟩
  · exact hinv (by rw [ht.handle]; rfl) (fun _ => ht.handle) ht.errorData
  · have hhung : t.hung = true := by rw [State.hung, hbusy, hvalid]; rfl
    exact hinv (by rw [hphase]; rfl) (fun hn => by simp [hhung] at hn) (by rw [hrsp]; exact hs.errorData)

/-- Settles O60: the two handshakes keep every clause, and a command keeps `Tracked` or hangs. -/
theorem stepKeepsInvariant : Obligations.StepKeepsInvariant := by
  intro s t hs h
  rcases step_cases h with rfl | ⟨-, hv, -, rfl⟩ | ⟨hb, w, rest, -, ⟨i, -, he⟩ | ⟨r, -, rfl⟩⟩
  · exact hs
  · exact takeResponse_inv hs hv
  · exact exec_inv hs hb he
  · have hidle := (hs.tracked hb).handle
    exact inv_of_running hs rfl rfl rfl hs.protocol (fun _ => hidle) fun _ => rfl

end Sys2Proof.Machine
end

section
/-! PROOFS. Reset and the step (R18, R98, R106): the state after reset, and the next state every step answers. -/

namespace Sys2Proof.Machine

/-- Settles O1: the fields of the reset state, and the constants. -/
theorem resetState : Obligations.ResetState := ⟨rfl, rfl, rfl, rfl, rfl, rfl, rfl, rfl, rfl⟩

/-- Settles O59: nothing runs and nothing was issued or taken, and the platform's table is legal. -/
theorem resetMeetsInvariant : Obligations.ResetMeetsInvariant :=
  { handshake := fun h => by cases h
    protocol := rfl
    handle := fun _ => rfl
    waveform := waveform_legal
    errorData := fun h => absurd rfl h
    errorsTaken := fun _ hr => by cases hr }

/-- Settles O12: no word is presented. -/
theorem idleStepWaits : Obligations.IdleStepWaits := fun _ => step_idle

theorem runWord_eq_next (w : CmdWord) (s : State) : ∃ t, runWord w s = .next t := by
  cases hd : decode w with
  | instr i => rw [runWord_instr hd]; exact exec_eq_next i s
  | illegal r => exact ⟨_, runWord_illegal hd s⟩

/-- Settles O15: the step idles, runs a word, has a response taken, or waits. -/
theorem stepAlwaysAnswersNext : Obligations.StepAlwaysAnswersNext := by
  intro s
  cases hb : s.busy with
  | false =>
    cases hc : s.cmds with
    | nil => exact ⟨s, step_idle hb hc⟩
    | cons w rest => rw [step_accept hb hc]; exact runWord_eq_next w (accept s)
  | true =>
    by_cases h : s.rspValid = true ∧ s.rspReady = true
    · exact ⟨_, step_take hb h.1 h.2⟩
    · exact ⟨s, step_wait hb fun hv => by simpa [hv] using h⟩

end Sys2Proof.Machine
end

section
/-! PROOFS. Commands refused before their first transaction (R91, R92, R94). -/

namespace Sys2Proof.Machine

/-- Settles O19: the check that every command but OPEN starts with, and OPEN's own. -/
theorem illegalStateRefused : Obligations.IllegalStateRefused := by
  rintro i s hwf (⟨hi, hl⟩ | ⟨hi, hl⟩)
  · exact ⟨_, exec_of_none hwf hi hl, ⟨rfl, rfl⟩, rfl, rfl⟩
  · cases i with
    | openBus tag =>
      obtain ⟨g, hg⟩ := Option.isSome_iff_exists.1 ((ofTag_isSome tag).trans hwf)
      exact ⟨_, execOpen_of_opened hg hl, ⟨rfl, rfl⟩, rfl, rfl⟩
    | _ => cases hi

/-- Settles O42: with no read to do the loop ends at once, at the division. -/
theorem averageOfZeroReads : Obligations.AverageOfZeroReads := fun s hl =>
  ⟨⟨raise .divZero (clearAccumulator s), exec_readAvg hl 0, ⟨rfl, rfl⟩, rfl, rfl⟩,
    ⟨raise .divZero (clearAccumulator s), exec_tare hl 0, ⟨rfl, rfl⟩, rfl, rfl⟩⟩

theorem reading_of_readsOnce {i : Instr} (h : readsOnce i = true) : reading i = true := by
  cases i with
  | readAvg _ | tare _ => rfl
  | _ => exact h

/-- Settles O48: the first read finds the handle closed. -/
theorem readsNeedOpenHandle : Obligations.ReadsNeedOpenHandle := by
  intro i s hi hl
  obtain ⟨d, hd⟩ := exec_reading_closed (reading_of_readsOnce hi) hl
  rw [hi] at hd
  exact ⟨_, hd, ⟨rfl, rfl⟩, rfl, rfl⟩

end Sys2Proof.Machine
end

section
/-! PROOFS. A read that ends its command, with an error or in a hang (R89, R90, R95, R102): `ReachesRead` says that a
command comes to a read, the first or a later one of an average; each way that read can fail is then said once. -/

namespace Sys2Proof.Machine

/-- The command `i`, run from `s`, comes to a read in the state `u`: on the way it wrote no register of the view, made
no response and issued `es`. -/
structure ReachesRead (i : Instr) (s : State) (es : List BusEvent) (u : State) : Prop where
  runs : ∃ f : Word → State → Ran Word, exec i s = .next ((readCore u).bind f).final
  arch : u.arch = s.arch
  issued : Issued s u es
  waits : Waits s u

/-! ## Which reads a command comes to (R65, R70) -/

theorem bind_bind {α β γ : Type} (r : Ran α) (f : α → State → Ran β) (g : β → State → Ran γ) :
    (r.bind f).bind g = r.bind fun a s => (f a s).bind g := by
  cases r <;> rfl

theorem exec_average {i : Instr} {times : Word} {s : State} (hi : i = .readAvg times ∨ i = .tare times)
    (hl : s.life ≠ .none) :
    ∃ f : Int → State → Ran Word, exec i s = .next ((avgCore times.toNat s).bind f).final := by
  rcases hi with rfl | rfl
  · exact ⟨_, exec_readAvg hl times⟩
  · exact ⟨_, exec_tare hl times⟩

/-- The loop comes to its read number `k`: after `k` answered reads without auto-close, or at once. -/
theorem avgLoop_reaches {s : State} {rx : Nat → Buf7} {k : Nat} (hl : s.life = .opened)
    (hk : s.par.autoClose = false ∨ k = 0) (hx : AnsweredBy s rx k) (n : Nat) :
    ∃ u, avgLoop (k + n) s = avgLoop n u ∧ u.arch = s.arch ∧
      Issued s u (transfers (s.par.wave.sel s.gainSel) rx k) ∧ Waits s u := by
  rcases hk with ha | rfl
  · obtain ⟨u, hu, harch, hi, hr, hv, -⟩ := avgLoop_prefix hl ha k hx n
    exact ⟨u, hu, harch, hi, hr, hv⟩
  · exact ⟨s, by rw [Nat.zero_add], rfl, issued_nil rfl, rfl, rfl⟩

theorem reachesRead_of_average {i : Instr} {times : Word} {s : State} {rx : Nat → Buf7} {k : Nat}
    (hi : i = .readAvg times ∨ i = .tare times) (hl : s.life = .opened) (hk : k < times.toNat)
    (ha : s.par.autoClose = false ∨ k = 0) (hx : AnsweredBy s rx k) :
    ∃ u, ReachesRead i s (transfers (s.par.wave.sel s.gainSel) rx k) u := by
  obtain ⟨m, hm⟩ : ∃ m, times.toNat = k + (m + 1) := ⟨times.toNat - k - 1, by omega⟩
  obtain ⟨f, hf⟩ := exec_average (s := s) hi (by simp [hl])
  obtain ⟨u, hu, harch, hissued, hwaits⟩ := avgLoop_reaches (s := clearAccumulator s) hl ha hx (m + 1)
  rw [avgCore, hm, hu, avgLoop_succ, bind_bind, bind_bind] at hf
  exact ⟨u, ⟨_, hf⟩, harch, hissued, hwaits⟩

theorem reachesRead_first {i : Instr} {s : State} (hi : readsOnce i = true) (hl : s.life = .opened) :
    ∃ u, ReachesRead i s [] u := by
  have haverage : ∀ times, times ≠ 0 → i = .readAvg times ∨ i = .tare times → ∃ u, ReachesRead i s [] u :=
    fun times h0 hi => reachesRead_of_average (rx := fun _ => default) hi hl
      (Nat.pos_of_ne_zero (BitVec.toNat_ne_iff_ne.2 h0)) (.inr rfl) fun _ hk => absurd hk (Nat.not_lt_zero _)
  cases i with
  | read =>
    have he : exec .read s = .next (readCore s).final := congrArg finish (needsInstance_opened hl readCore)
    exact ⟨s, ⟨.done, by rw [he, bind_done_eq_self]⟩, rfl, issued_nil rfl, rfl, rfl⟩
  | readNet =>
    exact ⟨s, ⟨_, congrArg finish (needsInstance_opened hl _)⟩, rfl, issued_nil rfl, rfl, rfl⟩
  | readAvg times => exact haverage times (bne_iff_ne.1 hi) (.inl rfl)
  | tare times => exact haverage times (bne_iff_ne.1 hi) (.inr rfl)
  | _ => cases hi

/-! ## How the read ends the command -/

theorem countP_isTransfer_transfers (w : Buf7) (rx : Nat → Buf7) (k : Nat) :
    (transfers w rx k).countP BusEvent.isTransfer = k := by
  simp [transfers, List.countP_map, Function.comp_def, BusEvent.isTransfer]

namespace ReachesRead
variable {i : Instr} {s u v : State} {es : List BusEvent}

/-- The answers the read gets are the first that the command has not used up. -/
theorem nextXfer_eq (h : ReachesRead i s es u) : nextXfer u = s.bus.xferAt (es.countP BusEvent.isTransfer) := by
  obtain ⟨-, -, hxfer⟩ := h.issued
  have h0 := hxfer 0
  rwa [Nat.zero_add] at h0

theorem nextAck_eq (h : ReachesRead i s es u) : nextAck u = s.bus.ackAt (es.countP fun e => !e.isTransfer) := by
  obtain ⟨-, hack, -⟩ := h.issued
  have h0 := hack 0
  rwa [Nat.zero_add] at h0

theorem nextXfer_after_transfers {w : Buf7} {rx : Nat → Buf7} {k : Nat} (h : ReachesRead i s (transfers w rx k) u) :
    nextXfer u = s.bus.xferAt k := by
  rw [h.nextXfer_eq, countP_isTransfer_transfers]

theorem raised {e : Status} (h : ReachesRead i s es u) (hr : readCore u = .raised e v) :
    exec i s = .next (raise e v) := by
  obtain ⟨f, hf⟩ := h.runs
  rw [hf, hr, bind_raised, final_raised]

theorem hung (h : ReachesRead i s es u) (hr : readCore u = .hung v) : exec i s = .next v := by
  obtain ⟨f, hf⟩ := h.runs
  rw [hf, hr, bind_hung, final_hung]

theorem par (h : ReachesRead i s es u) : u.par = s.par := congrArg Arch.par h.arch
theorem gainSel (h : ReachesRead i s es u) : u.gainSel = s.gainSel := congrArg Arch.gainSel h.arch

theorem life_ne_closed (h : ReachesRead i s es u) (hl : s.life = .opened) : u.life ≠ .closed := by
  have hu : u.life = s.life := congrArg Arch.life h.arch
  simp [hu, hl]

theorem issued_sent {x : XferAnswer} (h : ReachesRead i s es u) (hx : nextXfer u = x) :
    Issued s (sent u) (es ++ [.busTransfer (s.par.wave.sel s.gainSel) x]) := by
  have hi := Machine.issued_sent u
  rw [hx, h.par, h.gainSel] at hi
  exact h.issued.trans hi

theorem issued_autoClosed {rx : Buf7} {k : Ack} (h : ReachesRead i s es u) (hx : nextXfer u = .ok rx.toList)
    (hk : nextAck u = k) :
    Issued s (autoClosed rx u)
      (es ++ [.busTransfer (s.par.wave.sel s.gainSel) (.ok rx.toList), .busClose k]) := by
  have hi := Machine.issued_autoClosed rx u
  rw [hx, hk, h.par, h.gainSel] at hi
  exact h.issued.trans hi

theorem autoClosed_arch (h : ReachesRead i s es u) (rx : Buf7) :
    (autoClosed rx u).arch = { s.arch with life := .closed } := by
  rw [Machine.autoClosed_arch, h.arch]

/-- The transfer fails (R89). -/
theorem transferFails (h : ReachesRead i s es u) (hl : s.life = .opened) (hx : nextXfer u = .err) :
    ∃ t, exec i s = .next t ∧ Answers t ⟨.ioTransfer, 0⟩ ∧ t.arch = s.arch ∧
      Issued s t (es ++ [.busTransfer (s.par.wave.sel s.gainSel) .err]) :=
  ⟨_, h.raised (readCore_transferFails (h.life_ne_closed hl) hx), ⟨rfl, rfl⟩, h.arch, (h.issued_sent hx).of_bus rfl⟩

/-- The transfer is answered with another number of bytes than 7 (R95). -/
theorem malformed {l : List Byte} (h : ReachesRead i s es u) (hl : s.life = .opened) (hx : nextXfer u = .ok l)
    (h7 : l.length ≠ 7) :
    ∃ t, exec i s = .next t ∧ Answers t ⟨.malformed, 0⟩ ∧ t.arch = s.arch ∧
      Issued s t (es ++ [.busTransfer (s.par.wave.sel s.gainSel) (.ok l)]) :=
  ⟨_, h.raised ((readCore_answered (h.life_ne_closed hl) hx).trans (receive_malformed h7 _)), ⟨rfl, rfl⟩, h.arch,
    (h.issued_sent hx).of_bus rfl⟩

/-- The transfer is never answered (R102). -/
theorem unanswered (h : ReachesRead i s es u) (hl : s.life = .opened) (hx : nextXfer u = .never) :
    ∃ t, exec i s = .next t ∧ Waits s t ∧ t.arch = s.arch ∧
      Issued s t (es ++ [.busTransfer (s.par.wave.sel s.gainSel) .never]) :=
  ⟨_, h.hung (readCore_unanswered (h.life_ne_closed hl) hx), h.waits, h.arch, h.issued_sent hx⟩

theorem readCore_eq_autoClose {rx : Buf7} (h : ReachesRead i s es u) (hl : s.life = .opened)
    (ha : s.par.autoClose = true) (hx : nextXfer u = .ok rx.toList) :
    readCore u = autoClose (valueOf u.par.signMode rx) (received rx u) :=
  (readCore_answered (h.life_ne_closed hl) hx).trans
    (receive_autoClose (s := sent u) rx (by rw [sent_par, h.par, ha]))

/-- The auto-close of the read fails (R90). -/
theorem closeFails {rx : Buf7} (h : ReachesRead i s es u) (hl : s.life = .opened) (ha : s.par.autoClose = true)
    (hx : nextXfer u = .ok rx.toList) (hk : nextAck u = .err) :
    ∃ t, exec i s = .next t ∧ Answers t ⟨.ioClose, 0⟩ ∧ t.arch = { s.arch with life := .closed } ∧
      Issued s t (es ++ [.busTransfer (s.par.wave.sel s.gainSel) (.ok rx.toList), .busClose .err]) :=
  ⟨_, h.raised ((h.readCore_eq_autoClose hl ha hx).trans (autoClose_fails _ hk)), ⟨rfl, rfl⟩, h.autoClosed_arch rx,
    (h.issued_autoClosed hx hk).of_bus rfl⟩

/-- The auto-close of the read is never answered (R102). -/
theorem closeUnanswered {rx : Buf7} (h : ReachesRead i s es u) (hl : s.life = .opened) (ha : s.par.autoClose = true)
    (hx : nextXfer u = .ok rx.toList) (hk : nextAck u = .never) :
    ∃ t, exec i s = .next t ∧ Waits s t ∧ t.arch = { s.arch with life := .closed } ∧
      Issued s t (es ++ [.busTransfer (s.par.wave.sel s.gainSel) (.ok rx.toList), .busClose .never]) :=
  ⟨_, h.hung ((h.readCore_eq_autoClose hl ha hx).trans (autoClose_unanswered _ hk)), h.waits, h.autoClosed_arch rx,
    h.issued_autoClosed hx hk⟩

end ReachesRead

/-- Settles O25: CLOSE's own close, and the auto-close of the first read. -/
theorem failedCloseReleases : Obligations.FailedCloseReleases := by
  refine fun s hl hk => ⟨?_, fun i rx hi ha hx => ?_⟩
  · obtain ⟨-, -, hopened⟩ := closeOutcomes s
    obtain ⟨-, hfails, -⟩ := hopened hl
    obtain ⟨t, ht, hanswer, harch, -⟩ := hfails hk
    exact ⟨t, ht, hanswer, harch⟩
  · obtain ⟨u, hu⟩ := reachesRead_first hi hl
    obtain ⟨t, ht, hanswer, harch, -⟩ := hu.closeFails hl ha (hu.nextXfer_eq.trans hx) (hu.nextAck_eq.trans hk)
    exact ⟨t, ht, hanswer, harch⟩

/-- Settles O45: the failing read is the first of READ and READ_NET, or number `k` of an average. -/
theorem transferErrorEndsCommand : Obligations.TransferErrorEndsCommand := by
  refine ⟨fun s hl hx i hi => ?_, fun s times rx k hl hk ha hrx hx i hi => ?_⟩
  · have honce : readsOnce i = true := by rcases hi with rfl | rfl <;> rfl
    obtain ⟨u, hu⟩ := reachesRead_first honce hl
    exact hu.transferFails hl (hu.nextXfer_eq.trans hx)
  · obtain ⟨u, hu⟩ := reachesRead_of_average hi hl hk ha hrx
    exact hu.transferFails hl (hu.nextXfer_after_transfers.trans hx)

end Sys2Proof.Machine
end

section
/-! PROOFS. What runs in a command (`CommandRun`), said once, and from it the answer of each command: the errors it may
report, and where each comes from (R86, R95, R97). -/

namespace Sys2Proof.Machine

/-! ## What runs in a command (R53 to R84) -/

/-- A piece of a command that only completes: it raises nothing, makes no response and does not use the port. -/
def Completes {α : Type} (f : α → State → Ran Word) : Prop :=
  ∀ a s, ∃ d t, f a s = .done d t ∧ t.bus = s.bus ∧ t.rspValid = s.rspValid

/-- How the command `i` can run from `s`: refused by a check, on the registers alone, as OPEN's or CLOSE's bus
sequence, or as reads that something completes. -/
inductive CommandRun (i : Instr) (s : State) : Ran Word → Prop
  | refused {e : Status} (he : e = .illegalState ∨ e = .illegalCmd) (hi : e ∈ mayReport i) :
      CommandRun i s (.raised e s)
  | registers {d : Word} {t : State} (hb : t.bus = s.bus) (hv : t.rspValid = s.rspValid) : CommandRun i s (.done d t)
  | opens (g : Gain) (hi : isOpenCmd i = true) : CommandRun i s (openSequence g s)
  | closes (hi : i = .close) : CommandRun i s (releaseHandle s)
  | reads {f : Word → State → Ran Word} (hi : i = .read ∨ i = .readNet) (hf : Completes f) :
      CommandRun i s ((readCore s).bind f)
  | averages {times : Word} {f : Int → State → Ran Word} (hi : i = .readAvg times ∨ i = .tare times)
      (hf : Completes f) : CommandRun i s ((avgCore times.toNat s).bind f)

theorem illegalState_mem_mayReport (i : Instr) : Status.illegalState ∈ mayReport i := by
  cases i <;> simp [mayReport]

theorem CommandRun.of_needsInstance {i : Instr} {s : State} {f : State → Ran Word} (h : CommandRun i s (f s)) :
    CommandRun i s (needsInstance s f) := by
  by_cases hl : s.life = .none
  · rw [needsInstance_none hl]; exact .refused (.inl rfl) (illegalState_mem_mayReport i)
  · rwa [needsInstance_some hl]

theorem execOpen_run (tag : BitVec 2) (s : State) :
    ∃ r, exec (.openBus tag) s = .next r.final ∧ CommandRun (.openBus tag) s r := by
  rcases execOpen_cases tag s with ⟨-, e⟩ | ⟨g, -, ⟨-, e⟩ | ⟨-, e⟩⟩
  · exact ⟨.raised .illegalCmd s, e, .refused (.inr rfl) (by simp [mayReport])⟩
  · exact ⟨.raised .illegalState s, e, .refused (.inl rfl) (illegalState_mem_mayReport _)⟩
  · exact ⟨_, e, .opens g rfl⟩

/-- Every command runs in one of these ways. -/
theorem exec_run (i : Instr) (s : State) : ∃ r, exec i s = .next r.final ∧ CommandRun i s r := by
  cases i with
  | openBus tag => exact execOpen_run tag s
  | close =>
    refine ⟨_, rfl, ?_⟩
    cases s.life with
    | none => exact .refused (.inl rfl) (illegalState_mem_mayReport _)
    | closed => exact .registers rfl rfl
    | opened => exact .closes rfl
  | setGain tag =>
    refine ⟨_, rfl, ?_⟩
    cases Gain.ofTag tag with
    | none => exact .refused (.inr rfl) (by simp [mayReport])
    | some g => exact .of_needsInstance (.registers rfl rfl)
  | read =>
    have hread : CommandRun .read s ((readCore s).bind .done) := .reads (.inl rfl) fun d t => ⟨d, t, rfl, rfl, rfl⟩
    rw [bind_done_eq_self] at hread
    exact ⟨_, rfl, hread.of_needsInstance⟩
  | readNet => exact ⟨_, rfl, .of_needsInstance (.reads (.inr rfl) fun _ t => ⟨_, t, rfl, rfl, rfl⟩)⟩
  | readAvg times => exact ⟨_, rfl, .of_needsInstance (.averages (.inl rfl) fun _ t => ⟨_, t, rfl, rfl, rfl⟩)⟩
  | tare times => exact ⟨_, rfl, .of_needsInstance (.averages (.inr rfl) fun _ _ => ⟨0, _, rfl, rfl, rfl⟩)⟩
  | setOffset value => exact ⟨_, rfl, .of_needsInstance (.registers rfl rfl)⟩
  | getOffset => exact ⟨_, rfl, .of_needsInstance (.registers rfl rfl)⟩
  | isReady => exact ⟨_, rfl, .of_needsInstance (.registers rfl rfl)⟩
  | powerDown => exact ⟨_, rfl, .of_needsInstance (.registers rfl rfl)⟩
  | powerUp => exact ⟨_, rfl, .of_needsInstance (.registers rfl rfl)⟩

/-! ## A hang makes no response, and is an unanswered transaction (R102) -/

/-- The piece ended in a hang. -/
def Ran.isHung {α : Type} : Ran α → Bool
  | .done _ _ => false
  | .raised _ _ => false
  | .hung _ => true

/-- A piece of a command run from `s` made no response yet, and it hangs exactly if one of the transactions it issued
was never answered. -/
structure Accounted {α : Type} (s : State) (r : Ran α) : Prop where
  issued : ∃ es, Issued s r.state es ∧ r.isHung = es.any BusEvent.unanswered
  rspValid : r.state.rspValid = s.rspValid

section
variable {α β : Type} {s s' : State} {r : Ran α}

theorem Accounted.of_bus_eq (hb : r.state.bus = s.bus) (hv : r.state.rspValid = s.rspValid)
    (hr : r.isHung = false) : Accounted s r := ⟨⟨[], issued_nil hb, hr⟩, hv⟩

theorem Accounted.of_issued {es : List BusEvent} (hi : Issued s r.state es)
    (hr : r.isHung = es.any BusEvent.unanswered) (hv : r.state.rspValid = s.rspValid) : Accounted s r :=
  ⟨⟨es, hi, hr⟩, hv⟩

theorem Accounted.congr (h : Accounted s r) (hb : s'.bus = s.bus) (hv : s'.rspValid = s.rspValid) :
    Accounted s' r := by
  obtain ⟨⟨es, hi, hr⟩, hrv⟩ := h
  exact ⟨⟨es, hi.from_bus hb, hr⟩, hrv.trans hv.symm⟩

theorem Accounted.bind {f : α → State → Ran β} (h : Accounted s r) (hf : ∀ a t, Accounted t (f a t)) :
    Accounted s (r.bind f) := by
  obtain ⟨⟨es, hi, hr⟩, hv⟩ := h
  cases r with
  | done a t =>
    obtain ⟨⟨fs, hi', hr'⟩, hv'⟩ := hf a t
    refine ⟨⟨es ++ fs, hi.trans hi', ?_⟩, hv'.trans hv⟩
    rw [List.any_append, ← hr, ← hr']
    rfl
  | raised e t => exact ⟨⟨es, hi, hr⟩, hv⟩
  | hung t => exact ⟨⟨es, hi, hr⟩, hv⟩

theorem Completes.accounted {f : α → State → Ran Word} (hf : Completes f) (a : α) (t : State) :
    Accounted t (f a t) := by
  obtain ⟨d, u, he, hb, hv⟩ := hf a t
  rw [he]
  exact .of_bus_eq hb hv rfl

end

theorem readCore_accounted (s : State) : Accounted s (readCore s) := by
  have hsent := issued_sent s
  have hclosed := fun rx => issued_autoClosed rx s
  rcases readCore_cases s with ⟨-, e⟩ | ⟨-, ⟨hx, e⟩ | ⟨hx, e⟩ | ⟨l, hx, -, e⟩ |
    ⟨rx, hx, ⟨-, e⟩ | ⟨-, ⟨hk, e⟩ | ⟨hk, e⟩ | ⟨hk, e⟩⟩⟩⟩ <;> rw [e]
  · exact .of_bus_eq rfl rfl rfl
  all_goals rw [hx] at hsent hclosed
  · exact .of_issued hsent rfl rfl
  · exact .of_issued hsent rfl rfl
  · exact .of_issued hsent rfl rfl
  · exact .of_issued (hsent.of_bus rfl) rfl rfl
  all_goals rw [hk] at hclosed; exact .of_issued (hclosed rx) rfl rfl

theorem avgLoop_accounted (k : Nat) (s : State) : Accounted s (avgLoop k s) := by
  induction k generalizing s with
  | zero => exact .of_bus_eq rfl rfl rfl
  | succ k ih =>
    rw [avgLoop_succ]
    exact (readCore_accounted s).bind fun v t => (ih (accumulate v t)).congr rfl rfl

theorem avgCore_accounted (n : Nat) (s : State) : Accounted s (avgCore n s) := by
  have hloop : Accounted s (avgLoop n (clearAccumulator s)) := (avgLoop_accounted n _).congr rfl rfl
  refine hloop.bind fun _ t => ?_
  split <;> exact .of_bus_eq rfl rfl rfl

theorem openSequence_accounted (g : Gain) (s : State) : Accounted s (openSequence g s) := by
  have hopen := issued_busOpen s
  have hconf := issued_configured s
  have hclean := issued_cleanedUp s
  rcases openSequence_cases g s with ⟨h0, e⟩ | ⟨h0, e⟩ | ⟨h0, ⟨h1, e⟩ | ⟨h1, h2, e⟩ | ⟨h1, h2, e⟩ | ⟨h1, e⟩⟩ <;> rw [e]
  · rw [nextAck, h0] at hopen; exact .of_issued hopen rfl rfl
  · rw [nextAck, h0] at hopen; exact .of_issued hopen rfl rfl
  · rw [h0, h1] at hconf; exact .of_issued hconf rfl rfl
  · rw [h0, h1, h2] at hclean; exact .of_issued hclean rfl rfl
  · rw [h0, h1] at hclean
    exact .of_issued hclean (by simp [Ran.isHung, BusEvent.unanswered, h2]) rfl
  · rw [h0, h1] at hconf; exact .of_issued (hconf.of_bus rfl) rfl rfl

theorem releaseHandle_accounted (s : State) : Accounted s (releaseHandle s) := by
  have hclosed := issued_closedHandle s
  rcases releaseHandle_cases s with ⟨hk, e⟩ | ⟨hk, e⟩ | ⟨hk, e⟩ <;> rw [e] <;> rw [hk] at hclosed
  all_goals exact .of_issued hclosed rfl rfl

theorem CommandRun.accounted {i : Instr} {s : State} {r : Ran Word} (h : CommandRun i s r) : Accounted s r := by
  cases h with
  | refused => exact .of_bus_eq rfl rfl rfl
  | registers hb hv => exact .of_bus_eq hb hv rfl
  | opens g => exact openSequence_accounted g s
  | closes => exact releaseHandle_accounted s
  | reads _ hf => exact (readCore_accounted s).bind hf.accounted
  | averages _ hf => exact (avgCore_accounted _ s).bind hf.accounted

/-- A command presents a response unless its last piece hangs. -/
theorem CommandRun.rspValid_final {i : Instr} {s : State} {r : Ran Word} (h : CommandRun i s r)
    (hs : s.rspValid = false) : r.final.rspValid = !r.isHung := by
  have hv := h.accounted.rspValid
  cases r with
  | done d t => rfl
  | raised e t => rfl
  | hung t => exact hv.trans hs

/-! ## The errors of a read and of an average (R89 to R92, R95) -/

/-- The errors that the next `n` reads can raise, on the port `b` and under the parameters `p`, with what each needs. -/
inductive ReadError (n : Nat) (b : Bus) (p : Params) : Status → Prop
  | notOpen : ReadError n b p .notOpen
  | ioTransfer : ReadError n b p .ioTransfer
  | malformed {k : Nat} {l : List Byte} (hk : k < n) (hx : b.xferAt k = .ok l) (h7 : l.length ≠ 7) :
      ReadError n b p .malformed
  | ioClose (ha : p.autoClose = true) : ReadError n b p .ioClose

/-- An error of the reads after the first is one of all of them. -/
theorem ReadError.of_later {n : Nat} {b c : Bus} {p : Params} {e : Status} (h : ReadError n c p e)
    (hx : ∀ k, c.xferAt k = b.xferAt (k + 1)) : ReadError (n + 1) b p e := by
  cases h with
  | notOpen => exact .notOpen
  | ioTransfer => exact .ioTransfer
  | malformed hk hl h7 => exact .malformed (Nat.succ_lt_succ hk) ((hx _).symm.trans hl) h7
  | ioClose ha => exact .ioClose ha

theorem readCore_raised {n : Nat} {s t : State} {e : Status} (h : readCore s = .raised e t) :
    ReadError (n + 1) s.bus s.par e := by
  rcases readCore_cases s with ⟨-, e⟩ | ⟨-, ⟨-, e⟩ | ⟨-, e⟩ | ⟨l, hx, h7, e⟩ |
    ⟨rx, -, ⟨-, e⟩ | ⟨ha, ⟨-, e⟩ | ⟨-, e⟩ | ⟨-, e⟩⟩⟩⟩ <;> rw [e] at h <;> cases h
  · exact .notOpen
  · exact .ioTransfer
  · exact .malformed n.succ_pos hx h7
  · exact .ioClose ha

/-- A read that completes was answered with 7 bytes (R65, R95). -/
theorem nextXfer_of_readCore_done {s t : State} {v : Word} (h : readCore s = .done v t) :
    ∃ rx, nextXfer s = .ok (Buf7.toList rx) := by
  rcases readCore_cases s with ⟨-, e⟩ | ⟨-, ⟨-, e⟩ | ⟨-, e⟩ | ⟨l, -, -, e⟩ | ⟨rx, hx, -⟩⟩
  · rw [e] at h; cases h
  · rw [e] at h; cases h
  · rw [e] at h; cases h
  · rw [e] at h; cases h
  · exact ⟨rx, hx⟩

theorem avgLoop_raised {n : Nat} {s t : State} {e : Status} (h : avgLoop n s = .raised e t) :
    ReadError n s.bus s.par e := by
  induction n generalizing s with
  | zero => cases h
  | succ n ih =>
    rw [avgLoop_succ] at h
    cases hr : readCore s with
    | raised e' u => rw [hr] at h; cases h; exact readCore_raised hr
    | hung u => rw [hr] at h; cases h
    | done v u =>
      rw [hr, bind_done] at h
      obtain ⟨rx, hx⟩ := nextXfer_of_readCore_done hr
      obtain ⟨hbus, -, -, hpar⟩ := readCore_done_keeps hx hr
      have hlater := ih h
      rw [accumulate_par, hpar] at hlater
      exact hlater.of_later hbus

theorem avgCore_raised {n : Nat} {s t : State} {e : Status} (h : avgCore n s = .raised e t) :
    e = .divZero ∨ ReadError n s.bus s.par e := by
  rw [avgCore] at h
  cases hr : avgLoop n (clearAccumulator s) with
  | raised e' u => rw [hr] at h; cases h; exact .inr (avgLoop_raised (s := clearAccumulator s) hr)
  | hung u => rw [hr] at h; cases h
  | done v u =>
    rw [hr, bind_done] at h
    split at h <;> cases h
    exact .inl rfl

/-! ## The errors of a command (R86) -/

/-- The table of R86 lists `e` for `i`; `E_IO_CLOSE` of a read needs `AUTO_CLOSE`, and `E_MALFORMED` an answer of
another length than 7 to a transfer that the command can come to. -/
structure MayRaise (i : Instr) (s : State) (e : Status) : Prop where
  listed : e ∈ mayReport i
  autoClose : e = .ioClose → i ≠ .close → s.par.autoClose = true
  badLength : e = .malformed → ∃ k l, k < readLimit i ∧ s.bus.xferAt k = .ok l ∧ l.length ≠ 7

theorem ReadError.mayRaise {i : Instr} {s : State} {e : Status} (hi : reading i = true)
    (h : ReadError (readLimit i) s.bus s.par e) : MayRaise i s e := by
  have hlisted : Status.notOpen ∈ mayReport i ∧ Status.ioTransfer ∈ mayReport i ∧ Status.malformed ∈ mayReport i ∧
      Status.ioClose ∈ mayReport i := by
    cases i with
    | read | readAvg _ | tare _ | readNet => simp [mayReport]
    | _ => cases hi
  obtain ⟨hnotOpen, hioTransfer, hmalformed, hioClose⟩ := hlisted
  cases h with
  | notOpen => exact ⟨hnotOpen, nofun, nofun⟩
  | ioTransfer => exact ⟨hioTransfer, nofun, nofun⟩
  | malformed hk hx h7 => exact ⟨hmalformed, nofun, fun _ => ⟨_, _, hk, hx, h7⟩⟩
  | ioClose ha => exact ⟨hioClose, fun _ _ => ha, nofun⟩

/-- What completes after a piece raises nothing, so the piece did. -/
theorem raised_of_bind {α : Type} {r : Ran α} {f : α → State → Ran Word} {e : Status} {t : State} (hf : Completes f)
    (h : r.bind f = .raised e t) : r = .raised e t := by
  cases r with
  | done a u =>
    obtain ⟨d, w, he, -⟩ := hf a u
    rw [bind_done, he] at h
    cases h
  | raised e' u => cases h; rfl
  | hung u => cases h

theorem openSequence_raised {g : Gain} {s t : State} {e : Status} (h : openSequence g s = .raised e t) :
    e = .ioOpen ∨ e = .ioConfig := by
  rcases openSequence_cases g s with ⟨-, e⟩ | ⟨-, e⟩ | ⟨-, ⟨-, e⟩ | ⟨-, -, e⟩ | ⟨-, -, e⟩ | ⟨-, e⟩⟩ <;>
    rw [e] at h <;> cases h
  · exact .inl rfl
  · exact .inr rfl

theorem releaseHandle_raised {s t : State} {e : Status} (h : releaseHandle s = .raised e t) : e = .ioClose := by
  rcases releaseHandle_cases s with ⟨-, e⟩ | ⟨-, e⟩ | ⟨-, e⟩ <;> rw [e] at h <;> cases h
  rfl

theorem CommandRun.mayRaise {i : Instr} {s t : State} {e : Status} (h : CommandRun i s (.raised e t)) :
    MayRaise i s e := by
  generalize hr : Ran.raised e t = r at h
  cases h with
  | refused he hi =>
    cases hr
    rcases he with rfl | rfl <;> exact ⟨hi, nofun, nofun⟩
  | registers => cases hr
  | opens g hi =>
    cases i with
    | openBus tag =>
      rcases openSequence_raised hr.symm with rfl | rfl <;> exact ⟨by simp [mayReport], nofun, nofun⟩
    | _ => cases hi
  | closes hi =>
    subst hi
    obtain rfl := releaseHandle_raised hr.symm
    exact ⟨by decide, fun _ hne => absurd rfl hne, nofun⟩
  | reads hi hf =>
    have herr : ReadError 1 s.bus s.par e := readCore_raised (raised_of_bind hf hr.symm)
    rcases hi with rfl | rfl <;> exact herr.mayRaise rfl
  | averages hi hf =>
    rcases avgCore_raised (raised_of_bind hf hr.symm) with rfl | herr
    · rcases hi with rfl | rfl <;> exact ⟨by simp [mayReport], nofun, nofun⟩
    · rcases hi with rfl | rfl <;> exact herr.mayRaise rfl

/-- The response of a command that presents one: a success, or an error it may raise, with data 0 (R10). -/
theorem exec_response {i : Instr} {s t : State} (hs : s.rspValid = false) (h : exec i s = .next t)
    (ht : t.rspValid = true) : t.rsp.err = .ok ∨ (t.rsp.data = 0 ∧ MayRaise i s t.rsp.err) := by
  obtain ⟨r, he, hrun⟩ := exec_run i s
  cases he.symm.trans h
  cases r with
  | done d u => exact .inl rfl
  | raised e u => exact .inr ⟨rfl, hrun.mayRaise⟩
  | hung u => rw [hrun.rspValid_final hs] at ht; cases ht

theorem ok_mem_mayReport (i : Instr) : Status.ok ∈ mayReport i := by
  cases i <;> exact List.mem_cons_self

/-- Settles O55: the codes are evaluated; a command's error is one it may raise. -/
theorem statusesByCommand : Obligations.StatusesByCommand := by
  refine ⟨rfl, fun e => by cases e <;> decide, fun i s t hs h ht => ?_⟩
  rcases exec_response hs h ht with hok | ⟨hdata, herr⟩
  · rw [hok]
    exact ⟨ok_mem_mayReport i, fun hne => absurd rfl hne, nofun⟩
  · exact ⟨herr.listed, fun _ => hdata, herr.autoClose⟩

/-- Settles O46: the answer ends the read that gets it; and without such an answer no command may raise the error. -/
theorem malformedResponse : Obligations.MalformedResponse := by
  refine ⟨fun s i l hl hi hx h7 => ?_, fun s times rx k l hl hk ha hrx hx h7 i hi => ?_,
    fun s i t hall hs h ht hbad => ?_⟩
  · obtain ⟨u, hu⟩ := reachesRead_first hi hl
    exact hu.malformed hl (hu.nextXfer_eq.trans hx) h7
  · obtain ⟨u, hu⟩ := reachesRead_of_average hi hl hk ha hrx
    exact hu.malformed hl (hu.nextXfer_after_transfers.trans hx) h7
  · rcases exec_response hs h ht with hok | ⟨-, herr⟩
    · simp [hok] at hbad
    · obtain ⟨k, l, hk, hx, h7⟩ := herr.badLength hbad
      exact h7 (hall k l hk hx)

end Sys2Proof.Machine
end

section
/-! PROOFS. The transport that never answers (R102): the command waits, and the block with it, whatever number of steps
pass. -/

namespace Sys2Proof.Machine

/-! ## Runs of a block that waits -/

theorem run_succ_of_step {s t : State} (h : step s = .next t) (k : Nat) :
    Sys2Proof.core.run (k + 1) s = Sys2Proof.core.run k t := by
  have hc : Sys2Proof.core.step s = .next t := h
  simp only [Host.Core.run, hc]

theorem run_of_step_self {s : State} (h : step s = .next s) (k : Nat) : Sys2Proof.core.run k s = .next s := by
  induction k with
  | zero => rfl
  | succ k ih => rw [run_succ_of_step h, ih]

theorem run_of_hung {s : State} (hb : s.busy = true) (hv : s.rspValid = false) (k : Nat) :
    Sys2Proof.core.run k s = .next s :=
  run_of_step_self (step_wait hb fun h => by simp [hv] at h) k

/-- A word accepted and left without a response leaves the block waiting for ever. -/
theorem runWord_hangs {s t : State} {w : CmdWord} {rest : List CmdWord} (hb : s.busy = false)
    (hc : s.cmds = w :: rest) (h : runWord w (accept s) = .next t) (ht : t.rspValid = false) :
    t.busy = true ∧ t.cmds = rest ∧ ∀ k, Sys2Proof.core.run (k + 1) s = .next t := by
  have hkept : t.busy = true ∧ t.cmds = rest := by
    cases hd : decode w with
    | illegal r =>
      rw [runWord_illegal hd] at h
      cases h
      cases ht
    | instr i =>
      rw [runWord_instr hd] at h
      have hframe := exec_frame h
      rw [accept_arch hc] at hframe
      exact ⟨congrArg Arch.busy hframe, congrArg Arch.cmds hframe⟩
  refine ⟨hkept.1, hkept.2, fun k => ?_⟩
  rw [run_succ_of_step ((step_accept hb hc).trans h), run_of_hung hkept.1 ht]

/-! ## Commands that wait -/

/-- A command presents no response exactly when a transaction it issued was never answered. -/
theorem exec_hangs_iff {i : Instr} {s t : State} (hs : s.rspValid = false) (h : exec i s = .next t) :
    ∃ es, Issued s t es ∧ (t.rspValid = false ↔ ∃ e ∈ es, BusEvent.unanswered e = true) := by
  obtain ⟨r, he, hrun⟩ := exec_run i s
  cases he.symm.trans h
  obtain ⟨es, hi, hr⟩ := hrun.accounted.issued
  refine ⟨es, hi.of_bus (final_bus r), ?_⟩
  rw [hrun.rspValid_final hs, hr, Bool.not_eq_false', List.any_eq_true]

/-- A well-formed command whose first transaction is never answered waits. -/
theorem exec_of_blockedAtOnce {i : Instr} {s : State} (hwf : i.wf = true) (h : BlockedAtOnce i s) :
    ∃ t, exec i s = .next t ∧ Waits s t := by
  rcases h with ⟨hi, hl, hk⟩ | ⟨hi, hl, hx⟩ | ⟨rfl, hl, hk⟩
  · cases i with
    | openBus tag =>
      obtain ⟨g, hg⟩ := Option.isSome_iff_exists.1 ((ofTag_isSome tag).trans hwf)
      exact ⟨_, execOpen_of_sequence hg hl (openSequence_openUnanswered g hk), rfl, rfl⟩
    | _ => cases hi
  · obtain ⟨u, hu⟩ := reachesRead_first hi hl
    obtain ⟨t, ht, hwaits, -⟩ := hu.unanswered hl (hu.nextXfer_eq.trans hx)
    exact ⟨t, ht, hwaits⟩
  · have he := exec_close_opened hl
    rw [autoClose_unanswered 0 hk] at he
    exact ⟨_, he, rfl, rfl⟩

/-- Settles O16: a busy block without a response steps to itself; the commands that come to be so, by the transaction
that is not answered. -/
theorem unansweredCommandWaitsForEver : Obligations.UnansweredCommandWaitsForEver := by
  refine ⟨fun s hb hv => run_of_hung hb hv, fun s t hb hne h ht => ?_, fun i s t hs h => exec_hangs_iff hs h,
    fun s w rest i hb hc hd hblocked => ?_, fun s times rx k hl hk ha hrx hx i hi => ?_,
    fun s times rx hl ha h0 hx hk i hi => ?_⟩
  · obtain ⟨w, rest, hc⟩ := List.exists_cons_of_ne_nil hne
    rw [hc, List.tail_cons]
    exact runWord_hangs hb hc ((step_accept hb hc).symm.trans h) ht
  · obtain ⟨hwf, -⟩ := encodeOfDecode w i hd
    obtain ⟨t, ht, -, hv⟩ := exec_of_blockedAtOnce (s := accept s) hwf hblocked
    obtain ⟨hbusy, hcmds, hrun⟩ := runWord_hangs hb hc ((runWord_instr hd _).trans ht) hv
    exact ⟨t, hbusy, hv, hcmds, hrun⟩
  · obtain ⟨u, hu⟩ := reachesRead_of_average hi hl hk ha hrx
    exact hu.unanswered hl (hu.nextXfer_after_transfers.trans hx)
  · have honce : readsOnce i = true := by rcases hi with rfl | rfl <;> exact bne_iff_ne.2 h0
    obtain ⟨u, hu⟩ := reachesRead_first honce hl
    exact hu.closeUnanswered hl ha (hu.nextXfer_eq.trans hx) (hu.nextAck_eq.trans hk)

end Sys2Proof.Machine
end
